-- ==== Sys2Proof/Word.lean ====
section
/-! DEFINITION. The widths the spec gives: a byte is 8 bits, unsigned (00_scope.md R15); FREQ16, FREQ_CMD, FREQ_RAW
and RPM are 16 bits (10_state.md R22, R25, R26); the SET_SPEED operand is RPM_W = 32 bits (00_scope.md R9). -/

namespace Sys2Proof

/-- A byte, an unsigned value 0 to 255 (00_scope.md R15). -/
abbrev Byte := BitVec 8

/-- A 16-bit register or field (10_state.md R22, R25, R26). -/
abbrev Half := BitVec 16

/-- The operand of SET_SPEED and the register ARG: RPM_W bits, 32 (00_scope.md R9, log 5). -/
abbrev Rpm := BitVec 32

end Sys2Proof
end

