-- ==== Sys2Proof/Config.lean ====
section
/-! DEFINITION. The implementation parameters of 00_scope.md R9, and two of the free values (the third, `Config.freeMove`,
stands beside the type of moves in Machine/State.lean). A parameter that R9 calls
OPEN is a field of `Config`, which State carries unchanged, so that every statement about all states covers every
value of it (log 1). -/

namespace Sys2Proof

/-- The OPEN parameters of 00_scope.md R9: fixed when the block is instantiated (10_state.md R29). -/
structure Config where
  /-- PER_BYTE_DELAY in milliseconds is `perByteNum / perByteDen` (log 21). -/
  perByteNum : Nat
  perByteDen : Nat
  /-- SPEED_D3, the byte at index 4 of a speed frame. -/
  speedD3 : Byte
  /-- RX_CHECK_FIXED, whether the five fixed bytes of a status frame are checked. -/
  rxCheckFixed : Bool
  /-- RX_TIMEOUT, the bound in milliseconds on the wait for a status frame, or none. -/
  rxTimeout : Option Nat
  /-- HAS_TX_ERR, whether the transport can report a write error. -/
  hasTxErr : Bool
  deriving DecidableEq, Repr

/-- The defaults of 00_scope.md R9 (R10: the reference behaviour). -/
def Config.default : Config :=
  { perByteNum := 25, perByteDen := 24, speedD3 := 0x00#8,
    rxCheckFixed := false, rxTimeout := none, hasTxErr := false }

/-- PER_BYTE_DELAY is a positive rational (00_scope.md R9). -/
abbrev Config.wf (c : Config) : Prop := 0 < c.perByteNum ∧ 0 < c.perByteDen

/-- T_SETTLE, milliseconds (00_scope.md R9, 42_tx_sequencer.md R127). -/
def Config.tSettle : Nat := 1

/-- T_GUARD, milliseconds (00_scope.md R9, 42_tx_sequencer.md R131). -/
def Config.tGuard : Nat := 50

/-- BAUD, bits on the wire in a second (00_scope.md R9). -/
def Config.baud : Nat := 9600

/-- Whether a character carries a parity bit (00_scope.md R9). -/
inductive Parity where
  | none
  | even
  | odd
  deriving DecidableEq, Repr

/-- The framing of a character: 8N1 (00_scope.md R9). It is the transport's to honour (60_exceptions.md R203); no rule of
the block reads it but the default of PER_BYTE_DELAY (42_tx_sequencer.md R135). -/
structure Framing where
  startBits : Nat
  dataBits : Nat
  parity : Parity
  stopBits : Nat
  deriving DecidableEq, Repr

/-- One start bit, eight data bits, no parity, one stop bit (00_scope.md R9). -/
def Config.framing : Framing := { startBits := 1, dataBits := 8, parity := .none, stopBits := 1 }

/-- The bit times a character takes on the wire (42_tx_sequencer.md R135). -/
def Framing.bitsPerByte (f : Framing) : Nat :=
  f.startBits + f.dataBits + (if f.parity = .none then 0 else 1) + f.stopBits

/-- LEN_TX, bytes in a command frame (00_scope.md R9). -/
def Config.lenTx : Nat := 9

/-- LEN_RX, bytes in a status frame (00_scope.md R9). -/
def Config.lenRx : Nat := 13

/-- FREE VALUE (log 12): whether a write reports an error, once the oracle's list `txErrs` is used up
(00_scope.md R12 leaves it to the environment). -/
opaque Config.freeTxErr : Nat → Bool

/-- FREE VALUE (log 16): what the host reads from a register other than BUSY while the block is busy
(44_controller_ops.md R179: "not specified"). -/
opaque Config.freeRead : Nat → Half

end Sys2Proof
end

