-- ==== Sys2Proof/Machine/Checksum.lean ====
section
/-! DEFINITION. CK, the checksum calculator (40_checksum.md): pure and total (R102). -/

namespace Sys2Proof.Machine

/-- The payload `p[0..5)`: positions 2 to 6 of a command frame (40_checksum.md R100). -/
abbrev Payload := Vector Byte 5

/-- CK.XOR (40_checksum.md R100). -/
def ckXor (p : Payload) : Byte := p[0] ^^^ p[1] ^^^ p[2] ^^^ p[3] ^^^ p[4]

/-- CK.ADD (40_checksum.md R101); carries out of bit 7 are dropped. -/
def ckAdd (p : Payload) : Byte := p[0] + p[1] + p[2] + p[3] + p[4] + ckXor p

/-- The pair CK (40_checksum.md R104): every other rule uses CK through it. UNVERIFIED: the source disputes one value of ADD
(log 24). -/
def ck (p : Payload) : Byte × Byte := (ckXor p, ckAdd p)

end Sys2Proof.Machine
end

