-- ==== Sys2Proof/Syntax.lean ====
section
/-! DEFINITION. The instructions: one constructor per row of spec/opcode_table.json; the three formats of
30_encoding.md R70; a presented word. -/

namespace Sys2Proof

/-- The three formats (30_encoding.md R70). -/
inductive Format where
  | hostCmd
  | cmdFrame
  | statFrame
  deriving DecidableEq, Repr

/-- The 2-bit operation code OP (30_encoding.md R71); all four codes are used. -/
inductive HostOp where
  | turnOn
  | turnOff
  | setSpeed
  | reportSpeed
  deriving DecidableEq, Repr

/-- A word presented to the block: its format, which a receiver knows from the direction alone (R70), and its
bytes, index 0 first. -/
structure Presented where
  fmt : Format
  bytes : List Byte
  deriving DecidableEq, Repr

/-- The rows of the opcode table (30_encoding.md R81). ARG is latched by every host operation (44_controller_ops.md
R171), so every HOSTCMD row carries it. -/
inductive Instr where
  /-- TURN_ON, 44_controller_ops.md R173. -/
  | turnOn (arg : Rpm)
  /-- TURN_OFF, R174. -/
  | turnOff (arg : Rpm)
  /-- SET_SPEED, R175. -/
  | setSpeed (targetRpm : Rpm)
  /-- REPORT_SPEED, R176. -/
  | reportSpeed (arg : Rpm)
  /-- FRAME_POWER_ON, 30_encoding.md R73. -/
  | framePowerOn
  /-- FRAME_POWER_OFF, R73. -/
  | framePowerOff
  /-- FRAME_SPEED, R74: the variable bytes D1, D2, XOR, ADD. -/
  | frameSpeed (d1 d2 xor add : Byte)
  /-- FRAME_STATUS, R76: the variable bytes D1 to D6, XOR, ADD. -/
  | frameStatus (d1 d2 d3 d4 d5 d6 xor add : Byte)
  deriving DecidableEq, Repr

/-- The format of a row (30_encoding.md R81). -/
def Instr.format : Instr → Format
  | .turnOn _ => .hostCmd
  | .turnOff _ => .hostCmd
  | .setSpeed _ => .hostCmd
  | .reportSpeed _ => .hostCmd
  | .framePowerOn => .cmdFrame
  | .framePowerOff => .cmdFrame
  | .frameSpeed _ _ _ _ => .cmdFrame
  | .frameStatus _ _ _ _ _ _ _ _ => .statFrame

/-- The fixed length of each format in bytes (30_encoding.md R70). A HOSTCMD is 2 + 32 bits, laid out as one byte of
OP and four of ARG (log 4). -/
def Format.length : Format → Nat
  | .hostCmd => 5
  | .cmdFrame => 9
  | .statFrame => 13

end Sys2Proof
end

