-- ==== Sys2Proof/WellFormed.lean ====
section
/-! DEFINITION. When a term of Instr is a word of its row: the two constraints that no mask expresses. Only
FRAME_SPEED has any. -/

namespace Sys2Proof

/-- The trailer of a FRAME_SPEED row is CK of its payload (30_encoding.md R81, 40_checksum.md R103); the row assumes
SPEED_D3 = 0x00 (R81). -/
def speedTrailerOk (d1 d2 xor add : Byte) : Bool :=
  Machine.ck #v[0x55#8, d1, d2, 0x00#8, 0x01#8] == (xor, add)

/-- The frequency of a speed frame is a multiple of 4 (41_frame_builder.md R114; log 25). -/
def speedFieldOk (d2 : Byte) : Bool := d2.toNat % 4 == 0

/-- Well-formedness. A digit above 9 and any D6 or trailer of a status frame are accepted (30_encoding.md R82). -/
def Instr.wf : Instr → Bool
  | .turnOn _ => true
  | .turnOff _ => true
  | .setSpeed _ => true
  | .reportSpeed _ => true
  | .framePowerOn => true
  | .framePowerOff => true
  | .frameSpeed d1 d2 xor add => speedTrailerOk d1 d2 xor add && speedFieldOk d2
  | .frameStatus _ _ _ _ _ _ _ _ => true

end Sys2Proof
end

