-- ==== Sys2Proof/Decode.lean ====
section
/-! DEFINITION. The decoder, total on any bytes of any format and rejecting by name; the encoder, written from the
same rows of 30_encoding.md R81; and the numbering of spec/opcode_table.json. -/

namespace Sys2Proof

/-- Why a presented word is no instance of a row. -/
inductive DecodeError where
  /-- A HOSTCMD that is not 5 bytes (log 4). -/
  | hostCmdLength
  /-- Bits 7 to 2 of the OP byte are not 0: OP has 2 bits (30_encoding.md R71, log 4). -/
  | hostCmdOpBits
  /-- A CMDFRAME that is not 9 bytes (30_encoding.md R70). -/
  | cmdFrameLength
  /-- Nine bytes that match no CMDFRAME row (30_encoding.md R82: the block never emits them). -/
  | cmdFrameNoRow
  /-- A STATFRAME that is not 13 bytes (30_encoding.md R70). -/
  | statFrameLength
  /-- Thirteen bytes whose fixed bytes differ (30_encoding.md R82: "not a status frame"). -/
  | statFrameNoRow
  deriving DecidableEq, Repr

/-- A frame row of the opcode table: `match` and `mask`, index 0 first (30_encoding.md R81). -/
structure FrameRow where
  pattern : List Byte
  mask : List Byte
  deriving DecidableEq, Repr

/-- A frame is an instance of a row when `F and mask = match` bytewise (30_encoding.md R81). -/
def FrameRow.admits (r : FrameRow) (frame : List Byte) : Bool :=
  List.zipWith (· &&& ·) frame r.mask == r.pattern

/-- FRAME_POWER_ON, `00 55 00 00 00 01 54 AA FF`. -/
def rowPowerOn : FrameRow :=
  { pattern := [0x00, 0x55, 0x00, 0x00, 0x00, 0x01, 0x54, 0xAA, 0xFF]
    mask := [0xFF, 0xFF, 0xFF, 0xFF, 0xFF, 0xFF, 0xFF, 0xFF, 0xFF] }

/-- FRAME_POWER_OFF, `00 55 00 00 01 01 55 AC FF`. -/
def rowPowerOff : FrameRow :=
  { pattern := [0x00, 0x55, 0x00, 0x00, 0x01, 0x01, 0x55, 0xAC, 0xFF]
    mask := [0xFF, 0xFF, 0xFF, 0xFF, 0xFF, 0xFF, 0xFF, 0xFF, 0xFF] }

/-- FRAME_SPEED, `00 55 hh ll 00 01 xx aa FF`. -/
def rowSpeed : FrameRow :=
  { pattern := [0x00, 0x55, 0x00, 0x00, 0x00, 0x01, 0x00, 0x00, 0xFF]
    mask := [0xFF, 0xFF, 0x00, 0x00, 0xFF, 0xFF, 0x00, 0x00, 0xFF] }

/-- FRAME_STATUS, `00 55 d1 d2 d3 d4 d5 d6 01 00 xx aa FF`. -/
def rowStatus : FrameRow :=
  { pattern := [0x00, 0x55, 0x00, 0x00, 0x00, 0x00, 0x00, 0x00, 0x01, 0x00, 0x00, 0x00, 0xFF]
    mask := [0xFF, 0xFF, 0x00, 0x00, 0x00, 0x00, 0x00, 0x00, 0xFF, 0xFF, 0x00, 0x00, 0xFF] }

/-- OP as its 2-bit code (30_encoding.md R71). -/
def HostOp.code : HostOp → BitVec 2
  | .turnOn => 0b00
  | .turnOff => 0b01
  | .setSpeed => 0b10
  | .reportSpeed => 0b11

/-- The operation of a 2-bit code (30_encoding.md R71): all four codes are used. -/
def HostOp.ofCode (c : BitVec 2) : HostOp :=
  if c = 0b00 then .turnOn else if c = 0b01 then .turnOff else if c = 0b10 then .setSpeed else .reportSpeed

/-- The HOSTCMD row of an operation. -/
def Instr.ofHostOp (o : HostOp) (arg : Rpm) : Instr :=
  match o with
  | .turnOn => .turnOn arg
  | .turnOff => .turnOff arg
  | .setSpeed => .setSpeed arg
  | .reportSpeed => .reportSpeed arg

/-- The four bytes of ARG, least significant first (DESIGN CHOICE, log 4). -/
def argBytes (arg : Rpm) : List Byte :=
  [arg.extractLsb' 0 8, arg.extractLsb' 8 8, arg.extractLsb' 16 8, arg.extractLsb' 24 8]

/-- ARG from its four bytes, least significant first (DESIGN CHOICE, log 4). -/
def argOfBytes (a0 a1 a2 a3 : Byte) : Rpm := a3 ++ a2 ++ a1 ++ a0

/-- HOSTCMD (30_encoding.md R71). -/
def decodeHostCmd : List Byte → Except DecodeError Instr
  | [o, a0, a1, a2, a3] =>
    if o.extractLsb' 2 6 = 0 then .ok (.ofHostOp (HostOp.ofCode (o.extractLsb' 0 2)) (argOfBytes a0 a1 a2 a3))
    else .error .hostCmdOpBits
  | _ => .error .hostCmdLength

/-- CMDFRAME: FRAME_POWER_ON and FRAME_POWER_OFF are special cases and come first (30_encoding.md R75, log 8). -/
def decodeCmdFrame : List Byte → Except DecodeError Instr
  | [h0, h1, d1, d2, d3, k, x, a, t] =>
    if rowPowerOn.admits [h0, h1, d1, d2, d3, k, x, a, t] then .ok .framePowerOn
    else if rowPowerOff.admits [h0, h1, d1, d2, d3, k, x, a, t] then .ok .framePowerOff
    else if rowSpeed.admits [h0, h1, d1, d2, d3, k, x, a, t] then .ok (.frameSpeed d1 d2 x a)
    else .error .cmdFrameNoRow
  | _ => .error .cmdFrameLength

/-- STATFRAME (30_encoding.md R76). -/
def decodeStatFrame : List Byte → Except DecodeError Instr
  | [h0, h1, d1, d2, d3, d4, d5, d6, k0, k1, x, a, t] =>
    if rowStatus.admits [h0, h1, d1, d2, d3, d4, d5, d6, k0, k1, x, a, t] then
      .ok (.frameStatus d1 d2 d3 d4 d5 d6 x a)
    else .error .statFrameNoRow
  | _ => .error .statFrameLength

/-- The decoder: the format is known from the direction (30_encoding.md R70). -/
def decode (p : Presented) : Except DecodeError Instr :=
  match p.fmt with
  | .hostCmd => decodeHostCmd p.bytes
  | .cmdFrame => decodeCmdFrame p.bytes
  | .statFrame => decodeStatFrame p.bytes

/-- The FRAME_SPEED row of a block whose SPEED_D3 is `d3`: the byte at index 4 is SPEED_D3 (30_encoding.md R74), which the
table's row assumes to be 0x00 (R81). -/
def rowSpeedOf (d3 : Byte) : FrameRow := { rowSpeed with pattern := rowSpeed.pattern.set 4 d3 }

/-- A speed frame of a block whose SPEED_D3 is `d3` (30_encoding.md R74). -/
def decodeSpeedFrame (speedD3 : Byte) : List Byte → Option Instr
  | [h0, h1, d1, d2, d3, k, x, a, t] =>
    if (rowSpeedOf speedD3).admits [h0, h1, d1, d2, d3, k, x, a, t] then some (.frameSpeed d1 d2 x a) else none
  | _ => none

/-- The decoder of a block whose SPEED_D3 is `speedD3`: the table's rows, and, where none matches, its own speed frame
(30_encoding.md R74, R81; log 8). -/
def decodeFor (speedD3 : Byte) (p : Presented) : Except DecodeError Instr :=
  match decode p with
  | .ok i => .ok i
  | .error e =>
    match p.fmt with
    | .cmdFrame =>
      match decodeSpeedFrame speedD3 p.bytes with
      | some i => .ok i
      | none => .error e
    | .hostCmd | .statFrame => .error e

/-- A HOSTCMD word: OP in bits 1:0 of byte 0, then ARG (30_encoding.md R71, log 4). -/
def encodeHostCmd (o : HostOp) (arg : Rpm) : Presented :=
  { fmt := .hostCmd, bytes := (0#6 ++ o.code : Byte) :: argBytes arg }

/-- The encoder (30_encoding.md R71, R73, R74, R76). -/
def encode : Instr → Presented
  | .turnOn arg => encodeHostCmd .turnOn arg
  | .turnOff arg => encodeHostCmd .turnOff arg
  | .setSpeed rpm => encodeHostCmd .setSpeed rpm
  | .reportSpeed arg => encodeHostCmd .reportSpeed arg
  | .framePowerOn => ⟨.cmdFrame, [0x00, 0x55, 0x00, 0x00, 0x00, 0x01, 0x54, 0xAA, 0xFF]⟩
  | .framePowerOff => ⟨.cmdFrame, [0x00, 0x55, 0x00, 0x00, 0x01, 0x01, 0x55, 0xAC, 0xFF]⟩
  | .frameSpeed d1 d2 x a => ⟨.cmdFrame, [0x00, 0x55, d1, d2, 0x00, 0x01, x, a, 0xFF]⟩
  | .frameStatus d1 d2 d3 d4 d5 d6 x a =>
    ⟨.statFrame, [0x00, 0x55, d1, d2, d3, d4, d5, d6, 0x01, 0x00, x, a, 0xFF]⟩

/-- The one row a word of several rows decodes to: the speed frame of FREQ16 = 0 IS the power-on frame
(30_encoding.md R75). -/
def Instr.canon : Instr → Instr
  | .frameSpeed d1 d2 x a =>
    if d1 = 0x00 ∧ d2 = 0x00 ∧ x = 0x54 ∧ a = 0xAA then .framePowerOn else .frameSpeed d1 d2 x a
  | i => i

/-- The `n` low bytes of a number, the least significant first. -/
def bytesOfNat : Nat → Nat → List Byte
  | 0, _ => []
  | n + 1, w => BitVec.ofNat 8 w :: bytesOfNat n (w / 256)

/-- The format of a table word, from how many bits the table gives its row: 2 (in whole bytes 8), 72 or 104
(30_encoding.md R70). -/
def formatOfBits (nbits : Nat) : Format :=
  if nbits ≤ 40 then .hostCmd else if nbits ≤ 72 then .cmdFrame else .statFrame

/-- Reading a table word the way the column `match` of a frame row is written, index 0 most significant, when its low
byte is the closing byte T = 0xFF of a frame (log 4); no frame has 0xFF at index 0. -/
def asFrameBytes (bytes : List Byte) : List Byte :=
  if bytes.head? = some 0xFF then bytes.reverse else bytes

/-- The word that opcode_table.json numbers `w`: bit 0 is the least significant bit of the byte at index 0, and the
bits above `nbits` are 0. -/
def presentedOfTableWord (nbits w : Nat) : Presented :=
  let bytes := bytesOfNat (formatOfBits nbits).length (w % 2 ^ nbits)
  match formatOfBits nbits with
  | .hostCmd => ⟨.hostCmd, bytes⟩
  | .cmdFrame => ⟨.cmdFrame, asFrameBytes bytes⟩
  | .statFrame => ⟨.statFrame, asFrameBytes bytes⟩

/-- The instruction the decoder reads from a table word. -/
def decodeTableWord (nbits w : Nat) : Option Instr :=
  match decode (presentedOfTableWord nbits w) with
  | .ok i => some i
  | .error _ => none

end Sys2Proof
end

