-- ==== Sys2Proof/Machine/State.lean ====
section
/-! DEFINITION. Everything the spec gives the machine (10_state.md R20, R38 to R40; 60_exceptions.md R202), the
parameters it carries, the observation (00_scope.md R13), and the environment's plain data (00_scope.md R11, R12). -/

namespace Sys2Proof.Machine

/-- PHASE, ten values (10_state.md R33). -/
inductive Phase where
  | idle
  | txAssert
  | txSettle
  | txWrite
  | txDrain
  | txRelease
  | txGuard
  | rxFlush
  | rxRead
  | rxDecode
  deriving DecidableEq, Repr

/-- The error kinds the source names (60_exceptions.md R190). -/
inductive FaultKind where
  /-- Code 1, raised by REPORT_SPEED when RX_CHECK_FIXED (R191). -/
  | protocolFramingError
  /-- Code 2, raised by the transmitting operations when HAS_TX_ERR (R192). -/
  | transportError
  /-- Code 3, raised by REPORT_SPEED when RX_TIMEOUT is a number (R193). -/
  | responseTimeout
  /-- Code 4, never raised (R194). -/
  | checksumInconsistency
  deriving DecidableEq, Repr

/-- The interface events of 00_scope.md R16, with what each returns to the block where the spec's traces say it
(43_rx_parser.md R158: `RxReadable` true or false). -/
inductive Event where
  | dirAssert
  | dirDeassert
  | delay (ms : Nat)
  | txWrite (b : Byte)
  | rxReadable (answer : Bool)
  | rxRead (b : Byte)
  deriving DecidableEq, Repr

/-- The host-readable registers (10_state.md R20). RXBUF is read byte by byte. -/
inductive HostReg where
  | run
  | freqCmd
  | rxbuf (i : Fin 13)
  | freqRaw
  | rpm
  | fault
  | busy
  deriving DecidableEq, Repr

/-- Who moves next, and how (00_scope.md R11; log 9). -/
inductive Move where
  /-- The block takes one step. -/
  | block
  /-- A word is presented: the host issues an operation (44_controller_ops.md R170). -/
  | present (p : Presented)
  /-- The host withdraws the word it presented first and that was not accepted (R171). -/
  | hostWithdraw
  /-- The host reads a register (R170, R179). -/
  | hostRead (r : HostReg)
  /-- The drive, through the transport, appends a byte to the receive FIFO (10_state.md R38). -/
  | rxArrive (b : Byte)
  /-- The transport drops the byte at this place of the receive FIFO (R38; log 15). -/
  | rxDrop (i : Nat)
  /-- The oldest byte handed to the transport goes out on the wire (R39; log 14). -/
  | shiftOut
  /-- The transport loses the byte at this place of those it holds (R39; log 14). -/
  | txDrop (i : Nat)
  /-- This many milliseconds pass (60_exceptions.md R202; log 11). -/
  | elapse (ms : Nat)
  /-- The reset event (70_reset_and_hazards.md R220, R221; log 3). -/
  | reset
  deriving DecidableEq, Repr, Inhabited

/-- The moves of the environment once the scheduled ones are used up: it never ends (00_scope.md R12; log 9). -/
inductive Beyond where
  /-- The moves `m :: rest`, and then the same again, for ever. -/
  | recurs (m : Move) (rest : List Move)
  /-- Any moves, for ever: the free value `Config.freeMove`. -/
  | free
  deriving DecidableEq, Repr

end Sys2Proof.Machine

namespace Sys2Proof

/-- FREE VALUE (log 9): the moves of an environment that nothing constrains (00_scope.md R12: "an oracle the model must
leave unconstrained"). -/
opaque Config.freeMove : Nat → Machine.Move

end Sys2Proof

namespace Sys2Proof.Machine

/-- The state of the block, of the byte spaces around it, and of the environment. -/
structure State where
  /-- RUN, 10_state.md R21. -/
  run : Bool
  /-- FREQ_CMD, R22. -/
  freqCmd : Half
  /-- TXBUF, R23. -/
  txbuf : Vector Byte 9
  /-- RXBUF, R24. -/
  rxbuf : Vector Byte 13
  /-- FREQ_RAW, R25. -/
  freqRaw : Half
  /-- RPM, R26. -/
  rpm : Half
  /-- FAULT, R28. -/
  fault : BitVec 3
  /-- DIR, R30: true is asserted, transmit. -/
  dir : Bool
  /-- PHASE, R33. -/
  phase : Phase
  /-- IDX, R34. -/
  idx : BitVec 4
  /-- OP, R36. -/
  op : HostOp
  /-- ARG, R36. -/
  arg : Rpm
  /-- TXERR, R31. -/
  txerr : Bool
  /-- Milliseconds spent in RX_READ, 60_exceptions.md R202. -/
  rxTimer : Nat
  /-- The receive FIFO, oldest first, 10_state.md R38. -/
  rxFifo : List Byte
  /-- Bytes handed to the transport and not yet on the wire, oldest first, R39. -/
  txPort : List Byte
  /-- The block's bytes that have left the transport, oldest first, 20_memory.md R50. -/
  wire : List Byte
  /-- The OPEN parameters, 00_scope.md R9; no step writes them (10_state.md R29). -/
  cfg : Config
  /-- The trace of interface events, oldest first, 00_scope.md R13 (log 13). -/
  trace : List Event
  /-- The model's own record of the faults raised, oldest first, 60_exceptions.md R199. -/
  faultLog : List FaultKind
  /-- The model's own: what the host has read, oldest first (log 16). -/
  hostLog : List (HostReg × Half)
  /-- The model's own: words presented and not yet taken, the first one in front (log 27, log 28). -/
  inbox : List Presented
  /-- The model's own: the moves to come (log 9). -/
  schedule : List Move
  /-- The model's own: the moves after those, for ever (log 9). -/
  beyond : Beyond
  /-- The model's own: the transport's answers to the next writes (log 12). -/
  txErrs : List Bool
  /-- The model's own: the counter the free values are applied to (log 9, log 12, log 16). -/
  freeCtr : Nat
  deriving DecidableEq, Repr

/-- After reset (10_state.md R41, 70_reset_and_hazards.md R220): RUN = 0, FAULT = 0, DIR = 0, PHASE = IDLE,
TXERR = 0. The registers without a reset value hold the values of log 2; outside the block see log 22, and log 9 for `beyond`. -/
def State.reset : State :=
  { run := false, freqCmd := 0, txbuf := Vector.replicate 9 0, rxbuf := Vector.replicate 13 0
    freqRaw := 0, rpm := 0, fault := 0, dir := false, phase := .idle, idx := 0
    op := .turnOn, arg := 0, txerr := false, rxTimer := 0
    rxFifo := [], txPort := [], wire := [], cfg := Config.default, trace := []
    faultLog := [], hostLog := [], inbox := [], schedule := [], beyond := .recurs .block [], txErrs := [], freeCtr := 0 }

/-- Why the machine stops. -/
inductive Fault where
  /-- Raised by the TX_WRITE step when IDX is not an index of TXBUF. The spec says no rule forms such an index
  (10_state.md R34, 20_memory.md R50), so no run reaches it; the model has no effect to give it. Safe (log 19). -/
  | txIndexOutsideBuffer
  /-- Raised by the RX_READ step when IDX is not an index of RXBUF. Safe, as above (log 19). -/
  | rxIndexOutsideBuffer
  deriving DecidableEq, Repr

/-- Why an instruction has no meaning. -/
inductive Refusal where
  /-- An instruction that has no meaning yet; raised by exec's arms only. No arm raises it, so no step refuses. Safe. -/
  | notModelled (mnemonic : String)
  deriving DecidableEq, Repr

/-- The outcome of a step. -/
abbrev Outcome := Host.Outcome State Fault Refusal

end Sys2Proof.Machine
end

