-- ==== Sys2Proof/Machine/Flags.lean ====
section
/-! DEFINITION. The flags (10_state.md R27): BUSY, the FAULT codes, and the TXERR latch. RUN is written by the
completion of a power command only (Machine/TxSequencer.lean). -/

namespace Sys2Proof.Machine

/-- BUSY is 1 exactly when PHASE is not IDLE (10_state.md R32). -/
def State.busy (s : State) : Bool := s.phase != .idle

/-- The codes of the FAULT register (10_state.md R28). -/
def FaultKind.code : FaultKind → BitVec 3
  | .protocolFramingError => 1
  | .transportError => 2
  | .responseTimeout => 3
  | .checksumInconsistency => 4

/-- TXERR after a write that answered the error bit `e` (10_state.md R31, 42_tx_sequencer.md R128). -/
def latchTxErr (hasTxErr txerr e : Bool) : Bool := txerr || (hasTxErr && e)

/-- Whether RX_TIMEOUT has been reached (43_rx_parser.md R149). -/
def timedOut (rxTimeout : Option Nat) (rxTimer : Nat) : Bool :=
  match rxTimeout with
  | none => false
  | some t => decide (t ≤ rxTimer)

end Sys2Proof.Machine
end

