-- ==== Sys2Proof/Machine/Operands.lean ====
section
/-! DEFINITION. The arithmetic of the block's operands: FREQ16 and its bytes, the two frames, T_DRAIN, the digit
decode and the speed conversion. Everything is unsigned (00_scope.md R17). -/

namespace Sys2Proof.Machine

/-- FREQ16: divide before multiply, then the low 16 bits (41_frame_builder.md R113). -/
def freq16 (rpm : Rpm) : Half := BitVec.ofNat 16 (rpm.toNat / 60 * 100)

/-- The more significant byte of a frequency, D1 (30_encoding.md R79). -/
def hiByte (f : Half) : Byte := f.extractLsb' 8 8

/-- The less significant byte of a frequency, D2 (30_encoding.md R79). -/
def loByte (f : Half) : Byte := f.extractLsb' 0 8

/-- The frequency whose bytes these are (20_memory.md R54: big-endian). -/
def joinBytes (hi lo : Byte) : Half := hi ++ lo

/-- The direction operand of `build_power_frame` (41_frame_builder.md R111). -/
inductive Direction where
  | clockwise
  | off
  deriving DecidableEq, Repr

/-- D3 of a power frame (41_frame_builder.md R111). -/
def Direction.d3 : Direction → Byte
  | .clockwise => 0x00
  | .off => 0x01

/-- A command frame with these data bytes: the fixed bytes of 30_encoding.md R72 and the trailer CK computes from
the frame's own payload (41_frame_builder.md R110, 40_checksum.md R103). -/
def commandFrame (d1 d2 d3 : Byte) : Vector Byte 9 :=
  #v[0x00, 0x55, d1, d2, d3, 0x01,
     (ck #v[0x55, d1, d2, d3, 0x01]).1, (ck #v[0x55, d1, d2, d3, 0x01]).2, 0xFF]

/-- The power frame (30_encoding.md R73). -/
def powerFrame (d : Direction) : Vector Byte 9 := commandFrame 0x00 0x00 d.d3

/-- The speed frame of a frequency (30_encoding.md R74). -/
def speedFrame (speedD3 : Byte) (f : Half) : Vector Byte 9 := commandFrame (hiByte f) (loByte f) speedD3

/-- T_DRAIN = ceil(LEN_TX * PER_BYTE_DELAY) milliseconds (42_tx_sequencer.md R135). -/
def tDrain (c : Config) : Nat :=
  (Config.lenTx * c.perByteNum + (c.perByteDen - 1)) / c.perByteDen

/-- The exact weighted sum `n` of the digit decode (43_rx_parser.md R152); the bytes are not checked to be digits
(30_encoding.md R80). -/
def digitSum (rx : Vector Byte 13) : Nat :=
  10000 * rx[2].toNat + 1000 * rx[3].toNat + 100 * rx[4].toNat + 10 * rx[5].toNat + rx[6].toNat

/-- FREQ_RAW (43_rx_parser.md R152). -/
def decodeFreq (rx : Vector Byte 13) : Half := BitVec.ofNat 16 (digitSum rx / 100)

/-- RPM (43_rx_parser.md R154): divide before multiply. -/
def speedOf (freqRaw : Half) : Half := BitVec.ofNat 16 (freqRaw.toNat / 100 * 60)

/-- The fixed-byte check (43_rx_parser.md R151). -/
def fixedBytesOk (rx : Vector Byte 13) : Bool :=
  rx[0] == 0x00 && rx[1] == 0x55 && rx[8] == 0x01 && rx[9] == 0x00 && rx[12] == 0xFF

end Sys2Proof.Machine
end

