-- ==== Sys2Proof/Machine/Ops.lean ====
section
/-! DEFINITION. The named operations over registers, buffers, byte queues and the trace: the interface events of
00_scope.md R16, fault entry (60_exceptions.md R196), acceptance (44_controller_ops.md R171) and what it clears
(60_exceptions.md R197, the only way back from a fault), reset (70_reset_and_hazards.md R220). -/

namespace Sys2Proof.Machine

/-- One use of an interface primitive appends one event to the trace (00_scope.md R16). -/
def emit (e : Event) (s : State) : State := { s with trace := s.trace ++ [e] }

/-- `PHASE <- p` (00_scope.md R17). -/
def goTo (p : Phase) (s : State) : State := { s with phase := p }

/-- `DirAssert()`: DIR <- 1 (00_scope.md R16, 10_state.md R30). -/
def dirAssert (s : State) : State := emit .dirAssert { s with dir := true }

/-- `DirDeassert()`: DIR <- 0 (00_scope.md R16, 10_state.md R30). -/
def dirDeassert (s : State) : State := emit .dirDeassert { s with dir := false }

/-- `Delay(n)` (00_scope.md R14, R16; log 26). -/
def delay (ms : Nat) (s : State) : State := emit (.delay ms) s

/-- The error bit the transport returns to a write: the environment's (00_scope.md R12; log 12). -/
def writeError (s : State) : Bool :=
  match s.txErrs with
  | e :: _ => e
  | [] => Config.freeTxErr s.freeCtr

/-- The oracle after it has answered one write (log 12). -/
def oracleUsed (s : State) : State :=
  match s.txErrs with
  | _ :: rest => { s with txErrs := rest }
  | [] => { s with freeCtr := s.freeCtr + 1 }

/-- The transport takes a byte after every earlier one (00_scope.md R16, 10_state.md R39). -/
def handOver (b : Byte) (s : State) : State := emit (.txWrite b) { s with txPort := s.txPort ++ [b] }

/-- TXERR latches the error bit of a write (10_state.md R31); with HAS_TX_ERR false the bit is not read (42_tx_sequencer.md
R128). -/
def latchWriteError (s : State) : State :=
  if s.cfg.hasTxErr then { oracleUsed s with txerr := latchTxErr s.cfg.hasTxErr s.txerr (writeError s) } else s

/-- `TxWrite(b)` with its error bit (42_tx_sequencer.md R128). -/
def txWrite (b : Byte) (s : State) : State := latchWriteError (handOver b s)

/-- `RxReadable()` with the answer it gives; it changes nothing but the trace (20_memory.md R59). -/
def rxReadable (s : State) : State := emit (.rxReadable (!s.rxFifo.isEmpty)) s

/-- `RxRead()` when `b` is the oldest byte and `rest` what is left (00_scope.md R16, 20_memory.md R59; first in,
first out: R63, log 29). -/
def rxRead (b : Byte) (rest : List Byte) (s : State) : State := emit (.rxRead b) { s with rxFifo := rest }

/-- Bytes of the drive join the end of the receive FIFO (10_state.md R38, 00_scope.md R11; log 29). -/
def arrive (bytes : List Byte) (s : State) : State := { s with rxFifo := s.rxFifo ++ bytes }

/-- Fault entry: FAULT <- code, PHASE <- IDLE, nothing saved, nothing vectored (60_exceptions.md R196); the model's own
record keeps it (R199). -/
def raiseFault (k : FaultKind) (s : State) : State :=
  { s with fault := k.code, phase := .idle, faultLog := s.faultLog ++ [k] }

/-- The registers every acceptance writes (44_controller_ops.md R171); FAULT and TXERR are cleared whatever the
operation (60_exceptions.md R197, 10_state.md R31; log 18). -/
def accept (o : HostOp) (arg : Rpm) (s : State) : State :=
  { s with op := o, arg := arg, fault := 0, txerr := false }

/-- A word presented while the block is busy has no effect and is held (44_controller_ops.md R171; log 17). -/
def hold (p : Presented) (s : State) : State := { s with inbox := p :: s.inbox }

/-- Reset: every register of the block at its reset value, at once, in any phase; what is outside the block stays
(70_reset_and_hazards.md R220, R221; log 3). -/
def resetBlock (s : State) : State :=
  { State.reset with
    rxFifo := s.rxFifo, txPort := s.txPort, wire := s.wire, cfg := s.cfg, trace := s.trace
    faultLog := s.faultLog, hostLog := s.hostLog, inbox := s.inbox, schedule := s.schedule
    beyond := s.beyond, txErrs := s.txErrs, freeCtr := s.freeCtr }

end Sys2Proof.Machine
end

