-- ==== Sys2Proof/Machine/FrameBuilder.lean ====
section
/-! DEFINITION. FB, the frame builder (41_frame_builder.md), and the meanings of the three CMDFRAME rows. -/

namespace Sys2Proof.Machine

/-- `build_power_frame(direction)` (41_frame_builder.md R111): writes TXBUF only. -/
def buildPowerFrame (d : Direction) (s : State) : State := { s with txbuf := powerFrame d }

/-- The frame part of `build_speed_frame` for a frequency (41_frame_builder.md R112): TXBUF and FREQ_CMD. -/
def buildFrequencyFrame (f : Half) (s : State) : State :=
  { s with txbuf := speedFrame s.cfg.speedD3 f, freqCmd := f }

/-- `build_speed_frame(target_rpm)` (41_frame_builder.md R112, R113). -/
def buildSpeedFrame (rpm : Rpm) (s : State) : State := buildFrequencyFrame (freq16 rpm) s

/-- FB runs only when nothing is being sent (10_state.md R23): otherwise the word is held (log 17). -/
def whenIdle (i : Instr) (s : State) (effect : State) : Outcome :=
  if s.phase = .idle then .next effect else .next (hold (encode i) s)

/-- FRAME_POWER_ON: `build_power_frame(clockwise)` (41_frame_builder.md R111; log 6). -/
def execFramePowerOn (s : State) : Outcome := whenIdle .framePowerOn s (buildPowerFrame .clockwise s)

/-- FRAME_POWER_OFF: `build_power_frame(off)` (41_frame_builder.md R111; log 6). -/
def execFramePowerOff (s : State) : Outcome := whenIdle .framePowerOff s (buildPowerFrame .off s)

/-- FRAME_SPEED: the frame `build_speed_frame` builds for FREQ16 = D1:D2 (41_frame_builder.md R112). The trailer
TXBUF gets is CK's of its own payload, whatever bytes the word carries (40_checksum.md R103; log 6). -/
def execFrameSpeed (d1 d2 x a : Byte) (s : State) : Outcome :=
  whenIdle (.frameSpeed d1 d2 x a) s (buildFrequencyFrame (joinBytes d1 d2) s)

end Sys2Proof.Machine
end

