-- ==== Sys2Proof/Machine/Controller.lean ====
section
/-! DEFINITION. SC, the controller: acceptance of the four host operations (44_controller_ops.md R171). What each
does at its end is in Machine/TxSequencer.lean (R173 to R175) and Machine/RxParser.lean (R176). -/

namespace Sys2Proof.Machine

/-- TURN_ON (44_controller_ops.md R171, R173). -/
def execTurnOn (arg : Rpm) (s : State) : Outcome :=
  whenIdle (.turnOn arg) s (goTo .txAssert (buildPowerFrame .clockwise (accept .turnOn arg s)))

/-- TURN_OFF (44_controller_ops.md R171, R174). -/
def execTurnOff (arg : Rpm) (s : State) : Outcome :=
  whenIdle (.turnOff arg) s (goTo .txAssert (buildPowerFrame .off (accept .turnOff arg s)))

/-- SET_SPEED (44_controller_ops.md R171, R175): RUN is neither read nor written, the operand is not checked. -/
def execSetSpeed (targetRpm : Rpm) (s : State) : Outcome :=
  whenIdle (.setSpeed targetRpm) s (goTo .txAssert (buildSpeedFrame targetRpm (accept .setSpeed targetRpm s)))

/-- REPORT_SPEED (44_controller_ops.md R171, R176): no frame is built and nothing is transmitted. -/
def execReportSpeed (arg : Rpm) (s : State) : Outcome :=
  whenIdle (.reportSpeed arg) s (goTo .rxFlush (accept .reportSpeed arg s))

end Sys2Proof.Machine
end

