-- ==== Sys2Proof/Machine/RxParser.lean ====
section
/-! DEFINITION. RP, the response parser: the phases of `read_status` (43_rx_parser.md R146 to R155), and the
meaning of the STATFRAME row. -/

namespace Sys2Proof.Machine

/-- RX_FLUSH, one check (43_rx_parser.md R146). Entering RX_READ starts its timer at 0 (60_exceptions.md R202). -/
def stepRxFlush (s : State) : Outcome :=
  match s.rxFifo with
  | b :: rest => .next (rxRead b rest (rxReadable s))
  | [] => .next (goTo .rxRead { rxReadable s with idx := 0, rxTimer := 0 })

/-- The end of a byte step of RX_READ: IDX + 1, and RX_DECODE when it is 13 (43_rx_parser.md R148). -/
def nextRxByte (s : State) : State :=
  if s.idx + 1 = 13 then goTo .rxDecode { s with idx := s.idx + 1 } else { s with idx := s.idx + 1 }

/-- RX_READ while the FIFO is empty: the timeout step once RX_TIMEOUT is reached (43_rx_parser.md R149); before that the
block is held, one millisecond of its timer passing (60_exceptions.md R202; log 10, log 11); with RX_TIMEOUT none it is
held and nothing changes (R148). -/
def awaitByte (s : State) : State :=
  if timedOut s.cfg.rxTimeout s.rxTimer then raiseFault .responseTimeout s
  else if s.cfg.rxTimeout.isSome then { s with rxTimer := s.rxTimer + 1 }
  else s

/-- RX_READ, one byte (43_rx_parser.md R148). -/
def stepRxRead (s : State) : Outcome :=
  match s.rxFifo with
  | b :: rest =>
    if h : s.idx.toNat < 13 then
      .next (nextRxByte { rxRead b rest s with rxbuf := s.rxbuf.set s.idx.toNat b })
    else .fault .rxIndexOutsideBuffer
  | [] => .next (awaitByte s)

/-- The digit decode and the speed conversion (43_rx_parser.md R152, R154). -/
def decodeStatus (s : State) : State :=
  { s with freqRaw := decodeFreq s.rxbuf, rpm := speedOf (decodeFreq s.rxbuf) }

/-- RX_DECODE: the check if configured, decode, conversion, completion (43_rx_parser.md R150 to R155). -/
def stepRxDecode (s : State) : Outcome :=
  if s.cfg.rxCheckFixed && !fixedBytesOk s.rxbuf then .next (raiseFault .protocolFramingError s)
  else .next (goTo .idle (decodeStatus s))

/-- FRAME_STATUS: the drive's unsolicited frame arrives, its 13 bytes behind what the receive FIFO holds
(10_state.md R38, 00_scope.md R11, R19; log 7). REPORT_SPEED consumes them (43_rx_parser.md R145). -/
def execFrameStatus (d1 d2 d3 d4 d5 d6 x a : Byte) (s : State) : Outcome :=
  .next (arrive (encode (.frameStatus d1 d2 d3 d4 d5 d6 x a)).bytes s)

end Sys2Proof.Machine
end

