-- ==== Sys2Proof/Machine/Dispatch.lean ====
section
/-! DEFINITION. One arm per row of the opcode table. -/

namespace Sys2Proof.Machine

def exec (i : Instr) (s : State) : Host.Outcome State Fault Refusal :=
  match i with
  | .turnOn arg => Sys2Proof.Machine.execTurnOn arg s
  | .turnOff arg => Sys2Proof.Machine.execTurnOff arg s
  | .setSpeed rpm => Sys2Proof.Machine.execSetSpeed rpm s
  | .reportSpeed arg => Sys2Proof.Machine.execReportSpeed arg s
  | .framePowerOn => Sys2Proof.Machine.execFramePowerOn s
  | .framePowerOff => Sys2Proof.Machine.execFramePowerOff s
  | .frameSpeed d1 d2 x a => Sys2Proof.Machine.execFrameSpeed d1 d2 x a s
  | .frameStatus d1 d2 d3 d4 d5 d6 x a => Sys2Proof.Machine.execFrameStatus d1 d2 d3 d4 d5 d6 x a s

end Sys2Proof.Machine
end

