-- ==== Sys2Proof/Machine/Environment.lean ====
section
/-! DEFINITION. The moves of the host, the drive, the transport, time and reset (00_scope.md R11; 10_state.md R38,
R39; 44_controller_ops.md R170, R179; 70_reset_and_hazards.md R220). -/

namespace Sys2Proof.Machine

/-- The width of a host-readable register (10_state.md R20). -/
def HostReg.width : HostReg → Nat
  | .run => 1
  | .freqCmd => 16
  | .rxbuf _ => 8
  | .freqRaw => 16
  | .rpm => 16
  | .fault => 3
  | .busy => 1

/-- A one-bit register as a number. -/
def bit (b : Bool) : Half := if b then 1 else 0

/-- What a host-readable register holds (10_state.md R20). -/
def registerValue (r : HostReg) (s : State) : Half :=
  match r with
  | .run => bit s.run
  | .freqCmd => s.freqCmd
  | .rxbuf i => s.rxbuf[i].setWidth 16
  | .freqRaw => s.freqRaw
  | .rpm => s.rpm
  | .fault => s.fault.setWidth 16
  | .busy => bit s.busy

/-- Whether what the host reads is specified: always for BUSY, otherwise when the block is idle
(44_controller_ops.md R179). -/
def readSpecified (r : HostReg) (s : State) : Bool := !s.busy || r == .busy

/-- The host reads a register: its value where specified, else a free value of the register's width (log 16). -/
def hostRead (r : HostReg) (s : State) : State :=
  if readSpecified r s then { s with hostLog := s.hostLog ++ [(r, registerValue r s)] }
  else
    { s with
      hostLog := s.hostLog ++ [(r, ((Config.freeRead s.freeCtr).setWidth r.width).setWidth 16)]
      freeCtr := s.freeCtr + 1 }

/-- The oldest byte the transport holds goes out on the wire (10_state.md R39, 20_memory.md R53; log 14). -/
def shiftOut (s : State) : State :=
  match s.txPort with
  | b :: rest => { s with txPort := rest, wire := s.wire ++ [b] }
  | [] => s

/-- Time passes: the block measures it only in RX_READ and only when RX_TIMEOUT is a number (60_exceptions.md R202). -/
def elapse (ms : Nat) (s : State) : State :=
  if s.phase = .rxRead ∧ s.cfg.rxTimeout.isSome then { s with rxTimer := s.rxTimer + ms } else s

/-- A move of someone other than the block. -/
def environment (m : Move) (s : State) : State :=
  match m with
  | .block => s
  | .present p => { s with inbox := s.inbox ++ [p] }
  | .hostWithdraw => { s with inbox := s.inbox.tail }
  | .hostRead r => hostRead r s
  | .rxArrive b => arrive [b] s
  | .rxDrop i => { s with rxFifo := s.rxFifo.eraseIdx i }
  | .shiftOut => shiftOut s
  | .txDrop i => { s with txPort := s.txPort.eraseIdx i }
  | .elapse ms => elapse ms s
  | .reset => resetBlock s

end Sys2Proof.Machine
end

