-- ==== Sys2Proof/Machine/TxSequencer.lean ====
section
/-! DEFINITION. TS, the transmission sequencer: the six phases of `send` (42_tx_sequencer.md R126 to R131) and its
completion (R133). -/

namespace Sys2Proof.Machine

/-- TX_ASSERT (42_tx_sequencer.md R126). -/
def stepTxAssert (s : State) : Outcome := .next (goTo .txSettle (dirAssert s))

/-- TX_SETTLE (42_tx_sequencer.md R127). -/
def stepTxSettle (s : State) : Outcome :=
  .next (goTo .txWrite { delay Config.tSettle s with idx := 0 })

/-- The end of a byte step of TX_WRITE: IDX + 1, and TX_DRAIN when it is 9 (42_tx_sequencer.md R128). -/
def nextTxByte (s : State) : State :=
  if s.idx + 1 = 9 then goTo .txDrain { s with idx := s.idx + 1 } else { s with idx := s.idx + 1 }

/-- TX_WRITE, one byte (42_tx_sequencer.md R128): a write error does not shorten the step. -/
def stepTxWrite (s : State) : Outcome :=
  if h : s.idx.toNat < 9 then .next (nextTxByte (txWrite s.txbuf[s.idx.toNat] s))
  else .fault .txIndexOutsideBuffer

/-- TX_DRAIN (42_tx_sequencer.md R129). -/
def stepTxDrain (s : State) : Outcome := .next (goTo .txRelease (delay (tDrain s.cfg) s))

/-- TX_RELEASE (42_tx_sequencer.md R130). -/
def stepTxRelease (s : State) : Outcome := .next (goTo .txGuard (dirDeassert s))

/-- The state change of the operation in OP on success (44_controller_ops.md R173, R174, R175). REPORT_SPEED never
completes a `send` and has none (log 20). -/
def applyOp (s : State) : State :=
  match s.op with
  | .turnOn => { s with run := true }
  | .turnOff => { s with run := false }
  | .setSpeed => s
  | .reportSpeed => s

/-- Completion of `send` (42_tx_sequencer.md R133). -/
def completeSend (s : State) : State :=
  if s.txerr then raiseFault .transportError s else goTo .idle (applyOp s)

/-- TX_GUARD: the guard wait and, in the same step, completion (42_tx_sequencer.md R131, R133). -/
def stepTxGuard (s : State) : Outcome := .next (completeSend (delay Config.tGuard s))

end Sys2Proof.Machine
end

