-- ==== Sys2Proof/Machine/Sequencer.lean ====
section
/-! DEFINITION. Whose turn it is and what it is: the schedule, the word the block takes next, and the step of the
current phase (10_state.md R33, R35; 44_controller_ops.md R171). -/

namespace Sys2Proof.Machine

/-- The step of the phase the block is in (10_state.md R35). An idle block waits (70_reset_and_hazards.md R222). -/
def phaseStep (s : State) : Outcome :=
  match s.phase with
  | .idle => .next s
  | .txAssert => stepTxAssert s
  | .txSettle => stepTxSettle s
  | .txWrite => stepTxWrite s
  | .txDrain => stepTxDrain s
  | .txRelease => stepTxRelease s
  | .txGuard => stepTxGuard s
  | .rxFlush => stepRxFlush s
  | .rxRead => stepRxRead s
  | .rxDecode => stepRxDecode s

/-- What a step does: it runs an instruction, or it is complete. -/
inductive Turn where
  | runs (i : Instr) (s : State)
  | ends (o : Outcome)

/-- Whether the first presented word is taken now: a host command or a command frame only when the block is idle
(44_controller_ops.md R171), a status frame at any moment (00_scope.md R11, 20_memory.md R63). -/
def takes (p : Presented) (s : State) : Bool := p.fmt == .statFrame || !s.busy

/-- What a word that no row matches does once it is taken. From the drive, bytes that are no status frame arrive like any
others, and REPORT_SPEED decodes them or raises ProtocolFramingError (30_encoding.md R82). From the host, a word that is no
operation is not accepted and writes nothing, since a block waits until an operation is accepted (30_encoding.md R71,
44_controller_ops.md R171, 70_reset_and_hazards.md R222), and FB builds no other frame (30_encoding.md R82; log 8). -/
def unmatched (p : Presented) (s : State) : State :=
  match p.fmt with
  | .statFrame => arrive p.bytes s
  | .hostCmd | .cmdFrame => s

/-- The block's turn: the first presented word if it is taken, else the step of the phase. -/
def blockTurn (s : State) : Turn :=
  match s.inbox with
  | p :: rest =>
    if takes p s then
      match decodeFor s.cfg.speedD3 p with
      | .ok i => .runs i { s with inbox := rest }
      | .error _ => .ends (.next (unmatched p { s with inbox := rest }))
    else .ends (phaseStep s)
  | [] => .ends (phaseStep s)

/-- The move that comes next: the first scheduled one, else what the environment does for ever (00_scope.md R11, R12;
log 9). -/
def nextMove (s : State) : Move :=
  match s.schedule with
  | m :: _ => m
  | [] =>
    match s.beyond with
    | .recurs m _ => m
    | .free => Config.freeMove s.freeCtr

/-- The state with that move used up (log 9). -/
def moveUsed (s : State) : State :=
  match s.schedule with
  | _ :: rest => { s with schedule := rest }
  | [] =>
    match s.beyond with
    | .recurs _ rest => { s with schedule := rest }
    | .free => { s with freeCtr := s.freeCtr + 1 }

/-- The turn: the block's, or a move of someone else. -/
def turn (s : State) : Turn :=
  match nextMove s with
  | .block => blockTurn (moveUsed s)
  | m => .ends (.next (environment m (moveUsed s)))

/-- A word presented so that the next step takes it: in front of the inbox, the block's turn next, and, for what an idle
block takes, PHASE = IDLE (log 27). -/
def placeWord (p : Presented) (s : State) : State :=
  { s with
    inbox := p :: s.inbox
    schedule := .block :: s.schedule
    phase := if p.fmt = .statFrame then s.phase else .idle }

end Sys2Proof.Machine
end

