-- ==== Sys2Proof/Machine/Step.lean ====
section
/-! DEFINITION. One step of the machine. -/

namespace Sys2Proof.Machine

/-- One step: the turn, and the instruction it runs. -/
def step (s : State) : Host.Outcome State Fault Refusal :=
  match turn s with
  | .runs i s' => exec i s'
  | .ends o => o

/-- `s` with the word that opcode_table.json numbers `w` presented, so that the next step runs it (log 27). -/
def State.withFetchWord (s : State) (nbits w : Nat) : State := placeWord (presentedOfTableWord nbits w) s

end Sys2Proof.Machine
end

