-- ==== Sys2Proof/Safety.lean ====
section
/-! DEFINITION. The terms claims are stated in: runs of several steps, undisturbed runs, the traces the spec prints,
the transition table of 10_state.md R35, and the invariant a run keeps. -/

namespace Sys2Proof.Machine

/-- The operations of the phases of `send` (10_state.md R33). -/
def Phase.transmitting : Phase → Bool
  | .txAssert | .txSettle | .txWrite | .txDrain | .txRelease | .txGuard => true
  | .idle | .rxFlush | .rxRead | .rxDecode => false

/-- The phases of `read_status` (10_state.md R33). -/
def Phase.receiving : Phase → Bool
  | .rxFlush | .rxRead | .rxDecode => true
  | .idle | .txAssert | .txSettle | .txWrite | .txDrain | .txRelease | .txGuard => false

/-- The phases at whose entry DIR = 1 (42_tx_sequencer.md R136). -/
def Phase.lineAsserted : Phase → Bool
  | .txSettle | .txWrite | .txDrain | .txRelease => true
  | .idle | .txAssert | .txGuard | .rxFlush | .rxRead | .rxDecode => false

/-- The output invariants of FB (41_frame_builder.md R116); the length is the type's. -/
structure FrameOk (f : Vector Byte 9) : Prop where
  h0 : f[0] = 0x00
  h1 : f[1] = 0x55
  k : f[5] = 0x01
  t : f[8] = 0xFF
  trailer : (f[6], f[7]) = ck #v[f[1], f[2], f[3], f[4], f[5]]

/-- The bytes the block has handed to the transport, in the order of the trace. -/
def writtenBytes (trace : List Event) : List Byte :=
  trace.filterMap fun e => match e with
    | .txWrite b => some b
    | .dirAssert | .dirDeassert | .delay _ | .rxReadable _ | .rxRead _ => none

/-- What every step keeps. -/
structure Inv (s : State) : Prop where
  /-- DIR = 1 exactly in the phases of R136. -/
  line : s.dir = s.phase.lineAsserted
  /-- IDX is an index of TXBUF in TX_WRITE (10_state.md R34). -/
  txIndex : s.phase = .txWrite → s.idx.toNat < 9
  /-- IDX is an index of RXBUF in RX_READ (10_state.md R34). -/
  rxIndex : s.phase = .rxRead → s.idx.toNat < 13
  /-- What `send` works on is a frame FB built (41_frame_builder.md R116). -/
  frame : s.phase.transmitting = true → FrameOk s.txbuf
  /-- `send` serves the transmitting operations (10_state.md R35). -/
  txOp : s.phase.transmitting = true → s.op ≠ .reportSpeed
  /-- `read_status` serves REPORT_SPEED (10_state.md R35). -/
  rxOp : s.phase.receiving = true → s.op = .reportSpeed
  /-- FAULT is 0 while an operation runs: it is written at its end (10_state.md R28). -/
  faultWhileBusy : s.busy = true → s.fault = 0
  /-- ProtocolFramingError only with RX_CHECK_FIXED (60_exceptions.md R191). -/
  framingFault : s.fault = 1 → s.cfg.rxCheckFixed = true
  /-- TransportError only with HAS_TX_ERR (60_exceptions.md R192). -/
  transportFault : s.fault = 2 → s.cfg.hasTxErr = true
  /-- ResponseTimeout only with RX_TIMEOUT a number (60_exceptions.md R193). -/
  timeoutFault : s.fault = 3 → s.cfg.rxTimeout.isSome = true
  /-- Codes 4 to 7 are never written (10_state.md R28, 60_exceptions.md R194). -/
  faultCode : s.fault.toNat ≤ 3
  /-- ChecksumInconsistency was never raised (60_exceptions.md R194). -/
  faultRecord : FaultKind.checksumInconsistency ∉ s.faultLog
  /-- With HAS_TX_ERR false TXERR stays 0 (10_state.md R31). -/
  noTxErr : s.cfg.hasTxErr = false → s.txerr = false
  /-- Bytes appear in order on the wire (10_state.md R39, 20_memory.md R53). -/
  wireOrder : (s.wire ++ s.txPort).Sublist (writtenBytes s.trace)

/-- `n` steps, stopping at the first fault or refusal. -/
def steps : Nat → State → Outcome
  | 0, s => .next s
  | n + 1, s =>
    match step s with
    | .next t => steps n t
    | .fault f => .fault f
    | .refused r => .refused r

/-- The bytes the block has read from the receive FIFO, in the order of the trace. -/
def readBytes (trace : List Event) : List Byte :=
  trace.filterMap fun e => match e with
    | .rxRead b => some b
    | .dirAssert | .dirDeassert | .delay _ | .rxReadable _ | .txWrite _ => none

/-- It is the block's turn and it takes no presented word, whatever moves come after. -/
def BlockMoves (s : State) : Prop :=
  nextMove s = .block ∧ ∀ p ∈ s.inbox.head?, takes p s = false

/-- No one but the block moves, for ever, and no status frame waits to be taken while the block is busy. -/
def Undisturbed (s : State) : Prop :=
  s.schedule = [] ∧ s.beyond = .recurs .block [] ∧ ∀ p ∈ s.inbox.head?, p.fmt ≠ .statFrame

/-- The 14 events of one `send` (42_tx_sequencer.md R132). -/
def sendEvents (c : Config) (f : Vector Byte 9) : List Event :=
  [.dirAssert, .delay 1] ++ f.toList.map .txWrite ++ [.delay (tDrain c), .dirDeassert, .delay 50]

/-- The events of a drain phase that discards these bytes (43_rx_parser.md R146, R158). -/
def flushEvents (stale : List Byte) : List Event :=
  stale.flatMap (fun b => [.rxReadable true, .rxRead b]) ++ [.rxReadable false]

/-- The error bit the transport gives to the write that is `k` writes ahead (log 12). -/
def writeAnswer (s : State) (k : Nat) : Bool :=
  (s.txErrs[k]?).getD (Config.freeTxErr (s.freeCtr + (k - s.txErrs.length)))

/-- Whether one of the nine writes of a `send` that starts here is reported as an error. -/
def sendFails (s : State) : Bool := s.cfg.hasTxErr && (List.range 9).any (writeAnswer s)

/-- The phase the table of 10_state.md R35 gives for a block step that accepts nothing; that the timeout step is taken once
it is enabled is log 11. -/
def tablePhase (s : State) : Phase :=
  match s.phase with
  | .idle => .idle
  | .txAssert => .txSettle
  | .txSettle => .txWrite
  | .txWrite => if s.idx.toNat + 1 = 9 then .txDrain else .txWrite
  | .txDrain => .txRelease
  | .txRelease => .txGuard
  | .txGuard => .idle
  | .rxFlush => if s.rxFifo = [] then .rxRead else .rxFlush
  | .rxRead =>
    if s.rxFifo = [] then (if timedOut s.cfg.rxTimeout s.rxTimer then .idle else .rxRead)
    else if s.idx.toNat + 1 = 13 then .rxDecode else .rxRead
  | .rxDecode => .idle

end Sys2Proof.Machine
end

