-- ==== Sys2Proof/Certificates/Slice0/Obligations.lean ====
section
/-! DEFINITION. The statements for the provers. -/

open Sys2Proof Sys2Proof.Machine

/-! ## Reset -/

/-- 10_state.md R41: what reset leaves, at the start and by the reset event, which does not touch the receive FIFO. -/
def Obligations.ResetLeavesBlockIdleAndListening : Prop :=
  (State.reset.run = false ∧ State.reset.fault = 0 ∧ State.reset.dir = false ∧ State.reset.phase = .idle ∧
    State.reset.busy = false ∧ State.reset.txerr = false) ∧
  ∀ s : State, nextMove s = .reset →
    ∃ t, step s = .next t ∧ t.run = false ∧ t.fault = 0 ∧ t.dir = false ∧ t.phase = .idle ∧ t.busy = false ∧
      t.txerr = false ∧ t.rxFifo = s.rxFifo

/-- 70_reset_and_hazards.md R221: reset abandons an operation at once, in whatever phase: no event, no fault
recorded, nothing recalled from the transport. -/
def Obligations.ResetEventAbandonsOperation : Prop :=
  ∀ s : State, nextMove s = .reset →
    ∃ t, step s = .next t ∧ t.phase = .idle ∧ t.dir = false ∧ t.trace = s.trace ∧ t.fault = 0 ∧
      t.faultLog = s.faultLog ∧ t.txPort = s.txPort ∧ t.wire = s.wire ∧ t.rxFifo = s.rxFifo

/-- The invariant holds after reset (a sanity statement; the values of log 2 play no part in it). -/
def Obligations.ResetMeetsInvariant : Prop := Inv State.reset

/-- 70_reset_and_hazards.md R222: an idle block waits: on its turn, with nothing presented, only the turn is used up; and
until an operation is accepted no step emits an event; nor does the acceptance itself. -/
def Obligations.IdleBlockWaits : Prop :=
  (∀ s : State, s.phase = .idle → s.inbox = [] → nextMove s = .block → step s = .next (moveUsed s)) ∧
  (∀ s t : State, s.phase = .idle → step s = .next t → t.trace = s.trace) ∧
  State.reset.phase = .idle ∧ State.reset.trace = [] ∧ State.reset.run = false

/-! ## The invariant -/

/-- Every step keeps the invariant, from every state that has it, whoever moves. -/
def Obligations.EveryStepKeepsInvariant : Prop :=
  ∀ s t : State, Inv s → step s = .next t → Inv t

/-- Under the invariant every step answers a next state, so no run from a state that has it ever stops: no rule forms an
index outside a buffer (10_state.md R34; log 19), and a presented word that no row matches does what 30_encoding.md R82 says
(log 8). -/
def Obligations.NoFaultUnderInvariant : Prop :=
  ∀ s : State, Inv s → (∃ t, step s = .next t ∧ Inv t) ∧ ∀ n : Nat, ∃ t, steps n s = .next t ∧ Inv t

/-! ## CK and FB -/

/-- 40_checksum.md R100 and R101, the sum on natural numbers. -/
def Obligations.ChecksumPairOfPayload : Prop :=
  ∀ p : Payload,
    (ck p).1 = p[0] ^^^ p[1] ^^^ p[2] ^^^ p[3] ^^^ p[4] ∧
    (ck p).2.toNat =
      (p[0].toNat + p[1].toNat + p[2].toNat + p[3].toNat + p[4].toNat + (ck p).1.toNat) % 256

/-- 40_checksum.md R105: the order of the payload does not matter; flipping bit 7 of one byte flips bit 7 of XOR and
leaves ADD. -/
def Obligations.ChecksumIgnoresOrderAndMissesBitSeven : Prop :=
  (∀ p q : Payload, p.toList.Perm q.toList → ck p = ck q) ∧
  (∀ p : Payload, (ck p).2.toNat = ((p.toList.map BitVec.toNat).sum + (ck p).1.toNat) % 256) ∧
  ∀ (p : Payload) (i : Fin 5),
    ck (p.set i (p[i] ^^^ 0x80)) = ((ck p).1 ^^^ 0x80, (ck p).2)

/-- 41_frame_builder.md R112, R113, 30_encoding.md R79: what SET_SPEED builds, for every operand, every SPEED_D3; and
that nothing but the named registers changes. -/
def Obligations.SetSpeedBuildsFrequencyFrame : Prop :=
  ∀ (rpm : Rpm) (s : State), s.phase = .idle →
    ∃ t, exec (.setSpeed rpm) s = .next t ∧
      t.freqCmd.toNat = rpm.toNat / 60 * 100 % 65536 ∧
      t.txbuf[2].toNat * 256 + t.txbuf[3].toNat = rpm.toNat / 60 * 100 % 65536 ∧
      t.txbuf[0] = 0x00 ∧ t.txbuf[1] = 0x55 ∧ t.txbuf[4] = s.cfg.speedD3 ∧ t.txbuf[5] = 0x01 ∧ t.txbuf[8] = 0xFF ∧
      t.txbuf[6] = 0x55 ^^^ t.txbuf[2] ^^^ t.txbuf[3] ^^^ s.cfg.speedD3 ^^^ 0x01 ∧
      t.txbuf[7].toNat =
        (0x55 + t.txbuf[2].toNat + t.txbuf[3].toNat + s.cfg.speedD3.toNat + 0x01 + t.txbuf[6].toNat) % 256 ∧
      t.op = .setSpeed ∧ t.arg = rpm ∧ t.fault = 0 ∧ t.txerr = false ∧ t.phase = .txAssert ∧
      t = { s with
            txbuf := t.txbuf, freqCmd := t.freqCmd, op := t.op, arg := t.arg, fault := t.fault, txerr := t.txerr
            phase := t.phase }

/-- 41_frame_builder.md R114: where the frequency wraps, to what, that the frame carries the wrapped value, that it does so
without any indication, and that it is a multiple of 4. -/
def Obligations.FrequencyWrapsFrom39360 : Prop :=
  ∀ (rpm : Rpm) (s : State), s.phase = .idle →
    ∃ t, exec (.setSpeed rpm) s = .next t ∧ t.fault = 0 ∧
      t.freqCmd.toNat = rpm.toNat / 60 * 100 % 65536 ∧
      t.txbuf[2].toNat * 256 + t.txbuf[3].toNat = rpm.toNat / 60 * 100 % 65536 ∧
      (t.freqCmd.toNat = rpm.toNat / 60 * 100 ↔ rpm.toNat ≤ 39359) ∧
      (rpm.toNat ≤ 39359 ↔ rpm.toNat / 60 ≤ 655) ∧
      (∃ k, t.freqCmd.toNat = k * 100 % 65536) ∧ t.freqCmd.toNat % 4 = 0

/-- 41_frame_builder.md R115: speeds are quantised to steps of 60 rpm before the multiplication. -/
def Obligations.SpeedsQuantisedToSixtyRpm : Prop :=
  ∀ (r q : Rpm) (s t u : State), s.phase = .idle → r.toNat / 60 = q.toNat / 60 →
    exec (.setSpeed r) s = .next t → exec (.setSpeed q) s = .next u →
    t.txbuf = u.txbuf ∧ t.freqCmd = u.freqCmd ∧ t.freqCmd.toNat = r.toNat / 60 * 100 % 65536 ∧
    (r.toNat < 60 → t.freqCmd.toNat = 0) ∧ (60 ≤ r.toNat → r.toNat < 120 → t.freqCmd.toNat = 100)

/-- 30_encoding.md R75: the speed frame of FREQ16 = 0 is the power-on frame, with SPEED_D3 = 0x01 the power-off
frame; every speed below 60 is such; that the decoder answers the power row for that frame is read from R75 (DEDUCED,
log 8). -/
def Obligations.ZeroFrequencyFrameIsPowerFrame : Prop :=
  (∀ (rpm arg : Rpm) (s t u : State), s.phase = .idle → rpm.toNat / 60 * 100 % 65536 = 0 → s.cfg.speedD3 = 0x00 →
    exec (.setSpeed rpm) s = .next t → exec (.turnOn arg) s = .next u → t.txbuf = u.txbuf) ∧
  (∀ (rpm arg : Rpm) (s t u : State), s.phase = .idle → rpm.toNat / 60 * 100 % 65536 = 0 → s.cfg.speedD3 = 0x01 →
    exec (.setSpeed rpm) s = .next t → exec (.turnOff arg) s = .next u → t.txbuf = u.txbuf) ∧
  (∀ rpm : Rpm, rpm.toNat < 60 → rpm.toNat / 60 * 100 % 65536 = 0) ∧
  decode (encode (.frameSpeed 0x00 0x00 0x54 0xAA)) = .ok .framePowerOn

/-- The two power rows build exactly their frames in TXBUF and change nothing else (41_frame_builder.md R111; that a
CMDFRAME row runs FB alone is the model's choice, log 6). -/
def Obligations.PowerRowsBuildTheirFrames : Prop :=
  ∀ s : State, s.phase = .idle →
    exec .framePowerOn s =
      .next { s with txbuf := #v[0x00, 0x55, 0x00, 0x00, 0x00, 0x01, 0x54, 0xAA, 0xFF] } ∧
    exec .framePowerOff s =
      .next { s with txbuf := #v[0x00, 0x55, 0x00, 0x00, 0x01, 0x01, 0x55, 0xAC, 0xFF] }

/-- The speed row builds the frame of its two frequency bytes with SPEED_D3 and a fresh trailer, and FREQ_CMD, and
changes nothing else; with SPEED_D3 = 0x00 a well-formed row's frame is its own bytes (41_frame_builder.md R112,
40_checksum.md R103; the model's choice, log 6). -/
def Obligations.SpeedRowBuildsItsFrame : Prop :=
  ∀ (d1 d2 x a : Byte) (s : State), s.phase = .idle →
    ∃ t, exec (.frameSpeed d1 d2 x a) s = .next t ∧
      t.freqCmd.toNat = d1.toNat * 256 + d2.toNat ∧
      t.txbuf = #v[0x00, 0x55, d1, d2, s.cfg.speedD3, 0x01,
        (ck #v[0x55, d1, d2, s.cfg.speedD3, 0x01]).1, (ck #v[0x55, d1, d2, s.cfg.speedD3, 0x01]).2, 0xFF] ∧
      t = { s with txbuf := t.txbuf, freqCmd := t.freqCmd } ∧
      (s.cfg.speedD3 = 0x00 → (Instr.frameSpeed d1 d2 x a).wf = true →
        t.txbuf.toList = (encode (.frameSpeed d1 d2 x a)).bytes)

/-- A status frame arrives behind what the receive FIFO holds, in any phase, and nothing else changes (10_state.md R38,
30_encoding.md R76; the model's choice, log 7). -/
def Obligations.StatusRowArrivesInFifo : Prop :=
  ∀ (d1 d2 d3 d4 d5 d6 x a : Byte) (s : State),
    exec (.frameStatus d1 d2 d3 d4 d5 d6 x a) s =
      .next { s with
        rxFifo := s.rxFifo ++ [0x00, 0x55, d1, d2, d3, d4, d5, d6, 0x01, 0x00, x, a, 0xFF] }

/-! ## Acceptance -/

/-- 44_controller_ops.md R171, R173: TURN_ON's acceptance, and that nothing else changes. -/
def Obligations.TurnOnIsAccepted : Prop :=
  ∀ (arg : Rpm) (s : State), s.phase = .idle →
    exec (.turnOn arg) s =
      .next { s with
        op := .turnOn, arg := arg, fault := 0, txerr := false, phase := .txAssert
        txbuf := #v[0x00, 0x55, 0x00, 0x00, 0x00, 0x01, 0x54, 0xAA, 0xFF] }

/-- 44_controller_ops.md R171, R174: TURN_OFF's acceptance, and that nothing else changes. -/
def Obligations.TurnOffIsAccepted : Prop :=
  ∀ (arg : Rpm) (s : State), s.phase = .idle →
    exec (.turnOff arg) s =
      .next { s with
        op := .turnOff, arg := arg, fault := 0, txerr := false, phase := .txAssert
        txbuf := #v[0x00, 0x55, 0x00, 0x00, 0x01, 0x01, 0x55, 0xAC, 0xFF] }

/-- 44_controller_ops.md R171, R176: REPORT_SPEED's acceptance, and that nothing else changes. -/
def Obligations.ReportSpeedIsAccepted : Prop :=
  ∀ (arg : Rpm) (s : State), s.phase = .idle →
    exec (.reportSpeed arg) s =
      .next { s with op := .reportSpeed, arg := arg, fault := 0, txerr := false, phase := .rxFlush }

/-- 44_controller_ops.md R171: an operation is accepted only when PHASE = IDLE, in one step with the writes it lists;
presented earlier it has no effect and is held, and the host may withdraw it. -/
def Obligations.AcceptanceOnlyWhenIdle : Prop :=
  (∀ (o : HostOp) (arg : Rpm) (s : State), s.phase = .idle →
    ∃ t, exec (.ofHostOp o arg) s = .next t ∧ t.op = o ∧ t.arg = arg ∧ t.fault = 0 ∧ t.txerr = false ∧
      match o with
      | .turnOn => t.txbuf = powerFrame .clockwise ∧ t.phase = .txAssert
      | .turnOff => t.txbuf = powerFrame .off ∧ t.phase = .txAssert
      | .setSpeed => t.txbuf = speedFrame s.cfg.speedD3 (freq16 arg) ∧ t.freqCmd = freq16 arg ∧ t.phase = .txAssert
      | .reportSpeed => t.txbuf = s.txbuf ∧ t.phase = .rxFlush) ∧
  (∀ (o : HostOp) (arg : Rpm) (s : State), s.phase ≠ .idle →
    exec (.ofHostOp o arg) s = .next { s with inbox := encode (.ofHostOp o arg) :: s.inbox }) ∧
  (∀ (p : Presented) (rest : List Presented) (s t : State), s.phase ≠ .idle → nextMove s = .block →
    s.inbox = p :: rest → p.fmt = .hostCmd → step s = .next t → t.inbox = s.inbox ∧ t.op = s.op ∧ t.arg = s.arg) ∧
  (∀ (p : Presented) (rest : List Presented) (s : State), nextMove s = .hostWithdraw → s.inbox = p :: rest →
    step s = .next { moveUsed s with inbox := rest })

/-- A command frame presented while the block is busy is held like an operation: TXBUF is not touched (10_state.md R23;
log 17). -/
def Obligations.CommandFrameHeldWhileBusy : Prop :=
  ∀ (i : Instr) (s : State), i.format = .cmdFrame → s.phase ≠ .idle →
    exec i s = .next { s with inbox := encode i :: s.inbox }

/-! ## Encodings -/

/-- Decode and encode agree: every instruction, with every operand at every value, decodes to itself, but for the
speed frame that IS the power-on frame (30_encoding.md R75). -/
def Obligations.DecodeOfEncode : Prop :=
  (∀ i : Instr, decode (encode i) = .ok i.canon) ∧
  ∀ i : Instr, i.canon ≠ i → i = .frameSpeed 0x00 0x00 0x54 0xAA ∧ i.canon = .framePowerOn

/-- The other direction: no bit of a word the decoder accepts is dropped. A block of any SPEED_D3 decodes those words alike,
and beside them its own speed frames alone, with SPEED_D3 at index 4 (30_encoding.md R74, R81; log 8). -/
def Obligations.EncodeOfDecode : Prop :=
  (∀ (p : Presented) (i : Instr), decode p = .ok i → encode i = p ∧ i.format = p.fmt) ∧
  (∀ (d : Byte) (p : Presented) (i : Instr), decode p = .ok i → decodeFor d p = .ok i) ∧
  (∀ (d : Byte) (p : Presented) (i : Instr), decodeFor d p = .ok i → decode p = .ok i ∨
    ∃ d1 d2 x a, i = .frameSpeed d1 d2 x a ∧ p = ⟨.cmdFrame, [0x00, 0x55, d1, d2, d, 0x01, x, a, 0xFF]⟩) ∧
  ∀ d d1 d2 x a : Byte, ∃ i, decodeFor d ⟨.cmdFrame, [0x00, 0x55, d1, d2, d, 0x01, x, a, 0xFF]⟩ = .ok i ∧
    (i = .frameSpeed d1 d2 x a ∨ i = .framePowerOn ∨ i = .framePowerOff)

/-- The command frame rows overlap in the power-on frame only (30_encoding.md R75, R81). -/
def Obligations.RowsOverlapInPowerOnOnly : Prop :=
  ∀ f : List Byte, f.length = 9 →
    ¬ (rowPowerOn.admits f = true ∧ rowPowerOff.admits f = true) ∧
    ¬ (rowPowerOff.admits f = true ∧ rowSpeed.admits f = true) ∧
    (rowPowerOn.admits f = true → rowSpeed.admits f = true ∧ f = [0x00, 0x55, 0x00, 0x00, 0x00, 0x01, 0x54, 0xAA, 0xFF])

/-- 30_encoding.md R71: all four codes are used, so every 2-bit code with any operand is a host command, and it is the
operation the table names. -/
def Obligations.EveryHostCodeIsAnOperation : Prop :=
  ∀ arg : Rpm,
    decode ⟨.hostCmd, 0b00000000 :: argBytes arg⟩ = .ok (.turnOn arg) ∧
    decode ⟨.hostCmd, 0b00000001 :: argBytes arg⟩ = .ok (.turnOff arg) ∧
    decode ⟨.hostCmd, 0b00000010 :: argBytes arg⟩ = .ok (.setSpeed arg) ∧
    decode ⟨.hostCmd, 0b00000011 :: argBytes arg⟩ = .ok (.reportSpeed arg)

/-- A few words written out from the spec's encodings (a sanity statement); the byte layout of the first, a host command, is
the model's choice (log 4). -/
def Obligations.SpecWordsDecode : Prop :=
  decode ⟨.hostCmd, [0x02, 0xB8, 0x0B, 0x00, 0x00]⟩ = .ok (.setSpeed 3000) ∧
  decode ⟨.cmdFrame, [0x00, 0x55, 0x00, 0x00, 0x01, 0x01, 0x55, 0xAC, 0xFF]⟩ = .ok .framePowerOff ∧
  decode ⟨.cmdFrame, [0x00, 0x55, 0x13, 0x88, 0x00, 0x01, 0xCF, 0xC0, 0xFF]⟩ =
    .ok (.frameSpeed 0x13 0x88 0xCF 0xC0) ∧
  decode ⟨.statFrame, [0x00, 0x55, 0x01, 0x05, 0x00, 0x00, 0x00, 0x02, 0x01, 0x00, 0x56, 0x78, 0xFF]⟩ =
    .ok (.frameStatus 0x01 0x05 0x00 0x00 0x00 0x02 0x56 0x78) ∧
  decode ⟨.cmdFrame, [0x00, 0x55, 0x00, 0x00, 0x02, 0x01, 0x56, 0xAE, 0xFF]⟩ = .error .cmdFrameNoRow ∧
  decodeFor 0x02 ⟨.cmdFrame, [0x00, 0x55, 0x13, 0x88, 0x02, 0x01, 0xCD, 0xC0, 0xFF]⟩ = .ok (.frameSpeed 0x13 0x88 0xCD 0xC0)

/-- What a step is, in every case: on the block's turn, a word it takes is decoded and exec's outcome is the step's, the
word and the turn used up; of a word that no row matches the drive's bytes arrive in the receive FIFO (30_encoding.md R82),
and one from the host writes nothing (log 8); a turn that takes no word is the step of the phase
with the turn used up; anyone else's move is theirs. And which move that is: the first scheduled one, then those that recur
(log 9, log 27). -/
def Obligations.StepRunsDecodedInstruction : Prop :=
  (∀ (s : State) (p : Presented) (rest : List Presented), nextMove s = .block → s.inbox = p :: rest →
    (p.fmt = .statFrame ∨ s.phase = .idle) →
    (∀ i : Instr, decodeFor s.cfg.speedD3 p = .ok i → step s = exec i { moveUsed s with inbox := rest }) ∧
    ∀ e : DecodeError, decodeFor s.cfg.speedD3 p = .error e →
      step s = .next { moveUsed s with
        inbox := rest, rxFifo := s.rxFifo ++ if p.fmt = .statFrame then p.bytes else [] }) ∧
  (∀ s : State, nextMove s = .block → (∀ p ∈ s.inbox.head?, p.fmt ≠ .statFrame ∧ s.phase ≠ .idle) →
    step s = phaseStep (moveUsed s)) ∧
  (∀ (s : State) (m : Move), nextMove s = m → m ≠ .block → step s = .next (environment m (moveUsed s))) ∧
  (∀ (s : State) (m : Move) (rest : List Move), s.schedule = m :: rest →
    nextMove s = m ∧ moveUsed s = { s with schedule := rest }) ∧
  (∀ (s : State) (m : Move) (rest : List Move), s.schedule = [] → s.beyond = .recurs m rest →
    nextMove s = m ∧ moveUsed s = { s with schedule := rest }) ∧
  ∀ s : State, s.schedule = [] → s.beyond = .free → moveUsed s = { s with freeCtr := s.freeCtr + 1 }

/-! ## TS -/

/-- 42_tx_sequencer.md R126, R127, R129, R130: the four phases of `send` that are one event each, and that nothing else
changes but the turn, whatever moves come after; the assertion of the line is always a change from 0 to 1. -/
def Obligations.LineAndWaitPhases : Prop :=
  ∀ s : State, BlockMoves s →
    (s.phase = .txAssert →
      step s = .next { moveUsed s with dir := true, trace := s.trace ++ [.dirAssert], phase := .txSettle }) ∧
    (s.phase = .txSettle →
      step s = .next { moveUsed s with idx := 0, trace := s.trace ++ [.delay 1], phase := .txWrite }) ∧
    (s.phase = .txDrain →
      step s = .next { moveUsed s with trace := s.trace ++ [.delay (tDrain s.cfg)], phase := .txRelease }) ∧
    (s.phase = .txRelease →
      step s = .next { moveUsed s with dir := false, trace := s.trace ++ [.dirDeassert], phase := .txGuard }) ∧
    (s.phase = .txAssert → Inv s → s.dir = false)

/-- 42_tx_sequencer.md R128: one byte step of TX_WRITE, whatever the transport answers and whatever moves come after; only
the named registers, the turn and the oracle change. -/
def Obligations.WriteStepOffersOneByte : Prop :=
  ∀ s : State, BlockMoves s → s.phase = .txWrite → ∀ h : s.idx.toNat < 9,
    ∃ t, step s = .next t ∧
      t.trace = s.trace ++ [.txWrite s.txbuf[s.idx.toNat]] ∧ t.txPort = s.txPort ++ [s.txbuf[s.idx.toNat]] ∧
      t.txerr = (s.txerr || (s.cfg.hasTxErr && writeAnswer (moveUsed s) 0)) ∧
      t.idx.toNat = s.idx.toNat + 1 ∧ t.phase = (if s.idx.toNat + 1 = 9 then .txDrain else .txWrite) ∧
      t = { moveUsed s with
            trace := t.trace, txPort := t.txPort, txerr := t.txerr, idx := t.idx, phase := t.phase
            txErrs := t.txErrs, freeCtr := t.freeCtr }

/-- 42_tx_sequencer.md R131, R133: the guard wait and completion in one step. -/
def Obligations.GuardStepCompletes : Prop :=
  ∀ s : State, BlockMoves s → s.phase = .txGuard →
    (s.txerr = true →
      step s = .next { moveUsed s with
        trace := s.trace ++ [.delay 50], fault := 2, faultLog := s.faultLog ++ [.transportError], phase := .idle }) ∧
    (s.txerr = false → s.op = .turnOn →
      step s = .next { moveUsed s with trace := s.trace ++ [.delay 50], run := true, phase := .idle }) ∧
    (s.txerr = false → s.op = .turnOff →
      step s = .next { moveUsed s with trace := s.trace ++ [.delay 50], run := false, phase := .idle }) ∧
    (s.txerr = false → s.op = .setSpeed →
      step s = .next { moveUsed s with trace := s.trace ++ [.delay 50], phase := .idle })

/-- 42_tx_sequencer.md R132: the trace of one `send` is always these 14 events, whatever the frame, whatever the
transport answers; the line ends deasserted. -/
def Obligations.SendEmitsFourteenEvents : Prop :=
  ∀ s : State, Undisturbed s → s.phase = .txAssert →
    ∃ t, steps 14 s = .next t ∧ t.trace = s.trace ++ sendEvents s.cfg s.txbuf ∧ (sendEvents s.cfg s.txbuf).length = 14 ∧
      t.txPort = s.txPort ++ s.txbuf.toList ∧ t.phase = .idle ∧ t.dir = false ∧
      t.txerr = (s.txerr || sendFails s)

/-- 44_controller_ops.md R173: the whole of TURN_ON, from any RUN, whatever the transport answers; the registers it
does not write keep their values. -/
def Obligations.TurnOnOperation : Prop :=
  ∀ (arg : Rpm) (s : State) (rest : List Presented),
    s.phase = .idle → s.inbox = encode (.turnOn arg) :: rest → Undisturbed { s with inbox := rest } →
    ∃ t, steps 15 s = .next t ∧
      t.trace = s.trace ++ sendEvents s.cfg #v[0x00, 0x55, 0x00, 0x00, 0x00, 0x01, 0x54, 0xAA, 0xFF] ∧
      t.run = (if sendFails s then s.run else true) ∧ t.fault = (if sendFails s then 2 else 0) ∧
      t.phase = .idle ∧ t.dir = false ∧ t.inbox = rest ∧ t.op = .turnOn ∧ t.arg = arg ∧
      t = { s with
            op := t.op, arg := t.arg, fault := t.fault, txerr := t.txerr, txbuf := t.txbuf, dir := t.dir
            phase := t.phase, idx := t.idx, run := t.run, trace := t.trace, txPort := t.txPort
            faultLog := t.faultLog, inbox := t.inbox, txErrs := t.txErrs, freeCtr := t.freeCtr }

/-- 44_controller_ops.md R174: the whole of TURN_OFF; FREQ_CMD is among what it does not change. -/
def Obligations.TurnOffOperation : Prop :=
  ∀ (arg : Rpm) (s : State) (rest : List Presented),
    s.phase = .idle → s.inbox = encode (.turnOff arg) :: rest → Undisturbed { s with inbox := rest } →
    ∃ t, steps 15 s = .next t ∧
      t.trace = s.trace ++ sendEvents s.cfg #v[0x00, 0x55, 0x00, 0x00, 0x01, 0x01, 0x55, 0xAC, 0xFF] ∧
      t.run = (if sendFails s then s.run else false) ∧ t.fault = (if sendFails s then 2 else 0) ∧
      t.phase = .idle ∧ t.dir = false ∧ t.inbox = rest ∧ t.op = .turnOff ∧ t.arg = arg ∧
      t = { s with
            op := t.op, arg := t.arg, fault := t.fault, txerr := t.txerr, txbuf := t.txbuf, dir := t.dir
            phase := t.phase, idx := t.idx, run := t.run, trace := t.trace, txPort := t.txPort
            faultLog := t.faultLog, inbox := t.inbox, txErrs := t.txErrs, freeCtr := t.freeCtr }

/-- 44_controller_ops.md R175: the whole of SET_SPEED; RUN is not written, FREQ_CMD keeps the new value even when a write
fails; below 60 with SPEED_D3 = 0x00 the frame is the power-on frame. -/
def Obligations.SetSpeedOperation : Prop :=
  ∀ (rpm : Rpm) (s : State) (rest : List Presented),
    s.phase = .idle → s.inbox = encode (.setSpeed rpm) :: rest → Undisturbed { s with inbox := rest } →
    ∃ t, steps 15 s = .next t ∧
      t.trace = s.trace ++ sendEvents s.cfg (speedFrame s.cfg.speedD3 (freq16 rpm)) ∧
      t.freqCmd.toNat = rpm.toNat / 60 * 100 % 65536 ∧ t.run = s.run ∧ t.fault = (if sendFails s then 2 else 0) ∧
      t.phase = .idle ∧ t.dir = false ∧ t.inbox = rest ∧ t.op = .setSpeed ∧ t.arg = rpm ∧
      (rpm.toNat < 60 → s.cfg.speedD3 = 0x00 →
        speedFrame s.cfg.speedD3 (freq16 rpm) = #v[0x00, 0x55, 0x00, 0x00, 0x00, 0x01, 0x54, 0xAA, 0xFF]) ∧
      t = { s with
            op := t.op, arg := t.arg, fault := t.fault, txerr := t.txerr, txbuf := t.txbuf, freqCmd := t.freqCmd
            dir := t.dir, phase := t.phase, idx := t.idx, trace := t.trace, txPort := t.txPort
            faultLog := t.faultLog, inbox := t.inbox, txErrs := t.txErrs, freeCtr := t.freeCtr }

/-- 42_tx_sequencer.md R135: T_DRAIN is the least whole number of milliseconds not below nine byte times; 10 by
default, whose byte time is ten bit times at 9600 baud. -/
def Obligations.DrainWaitIsCeiling : Prop :=
  (∀ c : Config, c.wf →
    9 * c.perByteNum ≤ tDrain c * c.perByteDen ∧
    ∀ m : Nat, 9 * c.perByteNum ≤ m * c.perByteDen → tDrain c ≤ m) ∧
  tDrain Config.default = 10 ∧ Config.framing.bitsPerByte = 10 ∧
  Config.default.perByteNum * Config.baud = 1000 * Config.framing.bitsPerByte * Config.default.perByteDen

/-! ## RP -/

/-- 43_rx_parser.md R146: one check of the drain phase, in both cases, whatever moves come after; and that, the block
moving alone, it discards all it finds, one byte a check, leaves RXBUF alone, and ends on a false answer. -/
def Obligations.FlushDiscardsStaleBytes : Prop :=
  (∀ s : State, BlockMoves s → s.phase = .rxFlush →
    (∀ (b : Byte) (rest : List Byte), s.rxFifo = b :: rest →
      step s = .next { moveUsed s with rxFifo := rest, trace := s.trace ++ [.rxReadable true, .rxRead b] }) ∧
    (s.rxFifo = [] →
      step s = .next { moveUsed s with
        trace := s.trace ++ [.rxReadable false], idx := 0, rxTimer := 0, phase := .rxRead })) ∧
  ∀ s : State, Undisturbed s → s.phase = .rxFlush →
    steps (s.rxFifo.length + 1) s =
      .next { s with
        rxFifo := [], trace := s.trace ++ flushEvents s.rxFifo, idx := 0, rxTimer := 0, phase := .rxRead }

/-- 43_rx_parser.md R148: one byte step of RX_READ; while the FIFO is empty and RX_TIMEOUT is none the block is held. -/
def Obligations.ReadStepTakesOneByte : Prop :=
  (∀ (s : State) (b : Byte) (rest : List Byte), BlockMoves s → s.phase = .rxRead → s.rxFifo = b :: rest →
    ∀ h : s.idx.toNat < 13,
      step s = .next { moveUsed s with
        rxFifo := rest, trace := s.trace ++ [.rxRead b], rxbuf := s.rxbuf.set s.idx.toNat b, idx := s.idx + 1
        phase := if s.idx.toNat + 1 = 13 then .rxDecode else .rxRead }) ∧
  ∀ s : State, BlockMoves s → s.phase = .rxRead → s.rxFifo = [] → s.cfg.rxTimeout = none →
    step s = .next (moveUsed s)

/-- 20_memory.md R53, 43_rx_parser.md R148: thirteen reads store thirteen bytes in arrival order and leave what follows
in the FIFO. -/
def Obligations.ThirteenReadsFillBuffer : Prop :=
  ∀ (s : State) (frame : Vector Byte 13) (rest : List Byte),
    Undisturbed s → s.phase = .rxRead → s.idx = 0 → s.rxFifo = frame.toList ++ rest →
    steps 13 s =
      .next { s with
        rxbuf := frame, rxFifo := rest, idx := 13, trace := s.trace ++ frame.toList.map .rxRead, phase := .rxDecode }

/-- 43_rx_parser.md R151, R152, R154, R155: the RX_DECODE step on any 13 bytes, on natural numbers; it emits no event. -/
def Obligations.DecodeStepChecksAndConverts : Prop :=
  ∀ s : State, BlockMoves s → s.phase = .rxDecode →
    let ok := s.rxbuf[0] = 0x00 ∧ s.rxbuf[1] = 0x55 ∧ s.rxbuf[8] = 0x01 ∧ s.rxbuf[9] = 0x00 ∧ s.rxbuf[12] = 0xFF
    let n := 10000 * s.rxbuf[2].toNat + 1000 * s.rxbuf[3].toNat + 100 * s.rxbuf[4].toNat + 10 * s.rxbuf[5].toNat +
      s.rxbuf[6].toNat
    (s.cfg.rxCheckFixed = true → ¬ ok →
      step s = .next { moveUsed s with
        fault := 1, faultLog := s.faultLog ++ [.protocolFramingError], phase := .idle }) ∧
    (s.cfg.rxCheckFixed = false ∨ ok →
      ∃ t, step s = .next t ∧ t.freqRaw.toNat = n / 100 ∧ t.rpm.toNat = n / 100 / 100 * 60 ∧ t.phase = .idle ∧
        t = { moveUsed s with freqRaw := t.freqRaw, rpm := t.rpm, phase := t.phase })

/-- 43_rx_parser.md R153, R156: with digits 0 to 9 the last two never matter, FREQ_RAW is the three-digit number and RPM
is 60 times the first digit; in either setting of RX_CHECK_FIXED, if the frame passes. -/
def Obligations.DigitsReportHundredsOnly : Prop :=
  ∀ s t : State, BlockMoves s → s.phase = .rxDecode → (s.cfg.rxCheckFixed = false ∨ fixedBytesOk s.rxbuf = true) →
    s.rxbuf[2].toNat ≤ 9 → s.rxbuf[3].toNat ≤ 9 → s.rxbuf[4].toNat ≤ 9 → s.rxbuf[5].toNat ≤ 9 →
    s.rxbuf[6].toNat ≤ 9 → step s = .next t →
    t.freqRaw.toNat = 100 * s.rxbuf[2].toNat + 10 * s.rxbuf[3].toNat + s.rxbuf[4].toNat ∧
    t.rpm.toNat = 60 * s.rxbuf[2].toNat ∧ t.rpm.toNat ≤ 540

/-- 30_encoding.md R77, R78: D6 and the trailer of a status frame have no influence on the result, in any
configuration. -/
def Obligations.IndicatorAndTrailerIgnored : Prop :=
  ∀ (s t u : State) (d6 x a : Byte), BlockMoves s → s.phase = .rxDecode →
    step s = .next t →
    step { s with rxbuf := ((s.rxbuf.set 7 d6).set 10 x).set 11 a } = .next u →
    u.freqRaw = t.freqRaw ∧ u.rpm = t.rpm ∧ u.fault = t.fault ∧ u.phase = t.phase

/-- 60_exceptions.md R193: ResponseTimeout is raised only in RX_READ of a REPORT_SPEED, only with the FIFO empty, only
once RX_TIMEOUT, a number, has been reached; RXBUF, FREQ_RAW and RPM are not written. That the block TAKES the step
whenever it is enabled is the model's choice (43_rx_parser.md R149 says it may; log 11). -/
def Obligations.TimeoutEndsRead : Prop :=
  (∀ (s : State) (limit : Nat), BlockMoves s → s.phase = .rxRead → s.rxFifo = [] → s.cfg.rxTimeout = some limit →
    limit ≤ s.rxTimer →
    step s = .next { moveUsed s with fault := 3, faultLog := s.faultLog ++ [.responseTimeout], phase := .idle }) ∧
  ∀ s t : State, step s = .next t → t.faultLog = s.faultLog ++ [.responseTimeout] →
    s.phase = .rxRead ∧ s.rxFifo = [] ∧ (∃ limit, s.cfg.rxTimeout = some limit ∧ limit ≤ s.rxTimer) ∧
    (Inv s → s.op = .reportSpeed) ∧ t.fault = 3 ∧ t.rxbuf = s.rxbuf ∧ t.freqRaw = s.freqRaw ∧ t.rpm = s.rpm

/-- 70_reset_and_hazards.md R227: with RX_TIMEOUT none and a silent drive the block is held for ever, busy. -/
def Obligations.SilentDriveHoldsForever : Prop :=
  ∀ s : State, Undisturbed s → s.phase = .rxRead → s.rxFifo = [] → s.cfg.rxTimeout = none →
    ∀ n : Nat, steps n s = .next s ∧ s.busy = true

/-- 43_rx_parser.md R147, 70_reset_and_hazards.md R227: a drain phase under a byte stream that never pauses does not end,
in any configuration, RX_TIMEOUT included: bytes that come as fast as the block discards them keep it in RX_FLUSH, busy,
without a fault. That such a stream is a run of the model is log 9. -/
def Obligations.EndlessStreamDrainsForever : Prop :=
  ∀ (s : State) (b : Byte), s.schedule = [] → s.beyond = .recurs (.rxArrive b) [.block] →
    (∀ p ∈ s.inbox.head?, p.fmt ≠ .statFrame) → s.phase = .rxFlush →
    ∀ n : Nat, ∃ t, steps (2 * n) s = .next t ∧ t.phase = .rxFlush ∧ t.busy = true ∧ t.inbox = s.inbox ∧
      t.fault = s.fault ∧ t.rxbuf = s.rxbuf ∧ t.rxFifo.length = s.rxFifo.length ∧
      t.trace.length = s.trace.length + 2 * n

/-- With RX_TIMEOUT a number and a silent drive the read ends in ResponseTimeout (43_rx_parser.md R149; that a held step
lets one millisecond pass is the model's choice, log 11). -/
def Obligations.SilentDriveTimesOut : Prop :=
  ∀ (s : State) (limit : Nat), Undisturbed s → s.phase = .rxRead → s.rxFifo = [] → s.rxTimer = 0 →
    s.cfg.rxTimeout = some limit →
    ∃ t, steps (limit + 1) s = .next t ∧ t.fault = 3 ∧ t.phase = .idle ∧ t.trace = s.trace ∧
      t.freqRaw = s.freqRaw ∧ t.rpm = s.rpm ∧ t.rxbuf = s.rxbuf

/-- 44_controller_ops.md R176, 43_rx_parser.md R158 (that the FIFO hands the frame over in the order the drive sent it is
PRESUMED, log 29): the whole of REPORT_SPEED past any stale bytes, the drive sending
its frame once the FIFO was seen empty: 2k + 14 events, the result of rules R151, R152 and R154, nothing transmitted. -/
def Obligations.ReportSpeedOperation : Prop :=
  ∀ (arg : Rpm) (s : State) (rest : List Presented) (frame : Vector Byte 13),
    s.phase = .idle → s.inbox = encode (.reportSpeed arg) :: rest → (∀ p ∈ rest.head?, p.fmt ≠ .statFrame) →
    s.schedule = List.replicate (s.rxFifo.length + 2) .block ++ frame.toList.map .rxArrive →
    s.beyond = .recurs .block [] →
    ∃ t, steps (s.rxFifo.length + 29) s = .next t ∧ t.phase = .idle ∧ t.rxbuf = frame ∧ t.rxFifo = [] ∧
      t.trace = s.trace ++ flushEvents s.rxFifo ++ frame.toList.map .rxRead ∧
      (flushEvents s.rxFifo ++ frame.toList.map Event.rxRead).length = 2 * s.rxFifo.length + 14 ∧
      (if s.cfg.rxCheckFixed && !fixedBytesOk frame then t.fault = 1 ∧ t.freqRaw = s.freqRaw ∧ t.rpm = s.rpm
        else t.fault = 0 ∧ t.freqRaw = decodeFreq frame ∧ t.rpm = speedOf (decodeFreq frame)) ∧
      t = { s with
            op := .reportSpeed, arg := arg, fault := t.fault, txerr := false, phase := t.phase, idx := t.idx
            rxbuf := t.rxbuf, freqRaw := t.freqRaw, rpm := t.rpm, rxTimer := t.rxTimer, rxFifo := t.rxFifo
            trace := t.trace, faultLog := t.faultLog, inbox := rest, schedule := [] }

/-! ## Rules about the whole machine -/

/-- 10_state.md R35, 70_reset_and_hazards.md R222: a step on the block's turn that takes no word moves PHASE as the table
says, an accepted operation moves it to TX_ASSERT, REPORT_SPEED to RX_FLUSH, a frame row and any other word leave it, so that
IDLE is left by accepting one of the four operations alone, and no move of anyone else moves it but reset. That RX_READ goes to IDLE whenever
the bound is reached on an empty FIFO is the model's choice (R149 says it may; log 11). -/
def Obligations.PhasesFollowTable : Prop :=
  (∀ s t : State, BlockMoves s → step s = .next t → t.phase = tablePhase s) ∧
  (∀ s t : State, nextMove s ≠ .block → step s = .next t → t.phase = if nextMove s = .reset then .idle else s.phase) ∧
  (∀ (o : HostOp) (arg : Rpm) (s : State), s.phase = .idle →
    ∃ t, exec (.ofHostOp o arg) s = .next t ∧ t.phase = if o = .reportSpeed then .rxFlush else .txAssert) ∧
  (∀ (i : Instr) (s : State), i.format ≠ .hostCmd → ∃ t, exec i s = .next t ∧ t.phase = s.phase) ∧
  ∀ s t : State, nextMove s = .block → ¬ BlockMoves s → step s = .next t → t.phase ≠ s.phase →
    s.phase = .idle ∧ ∃ p ∈ s.inbox.head?, ∃ (o : HostOp) (arg : Rpm), decodeFor s.cfg.speedD3 p = .ok (.ofHostOp o arg) ∧
      t.phase = if o = .reportSpeed then .rxFlush else .txAssert

/-- 44_controller_ops.md R177, 10_state.md R21: no operation reads RUN: from a state that differs in RUN alone, acceptance and
every phase do the same, and what they leave differs in RUN at most. -/
def Obligations.RunDecidesNothing : Prop :=
  (∀ (i : Instr) (s t : State) (b : Bool), exec i s = .next t → exec i { s with run := b } = .next { t with run := b }) ∧
  ∀ (s t : State) (b : Bool), phaseStep s = .next t →
    ∃ u, phaseStep { s with run := b } = .next u ∧ u = { t with run := u.run } ∧
      (s.phase = .txGuard → s.txerr = false → s.op = .turnOn ∨ s.op = .turnOff → u.run = t.run)

/-- 41_frame_builder.md R116: every frame FB builds has the fixed bytes and the trailer of its own payload, and `send` is
never started on anything else (that reset clears TXBUF is the model's choice, log 2). -/
def Obligations.OnlyBuiltFramesAreSent : Prop :=
  ∀ s t : State, step s = .next t →
    (t.txbuf ≠ s.txbuf → FrameOk t.txbuf ∨ nextMove s = .reset) ∧
    (s.phase ≠ .txAssert → t.phase = .txAssert → FrameOk t.txbuf)

/-- RXBUF is written by the read phase at IDX, FREQ_RAW and RPM by a decode that raises no fault, from RXBUF, and by
reset (10_state.md R24, R25, R26; the reset value, log 2). -/
def Obligations.ResultsChangeOnlyWhenRead : Prop :=
  ∀ s t : State, step s = .next t → nextMove s ≠ .reset →
    (t.rxbuf ≠ s.rxbuf → s.phase = .rxRead ∧
      ∃ b rest, s.rxFifo = b :: rest ∧ ∃ h : s.idx.toNat < 13, t.rxbuf = s.rxbuf.set s.idx.toNat b) ∧
    (t.freqRaw ≠ s.freqRaw ∨ t.rpm ≠ s.rpm → s.phase = .rxDecode ∧ t.faultLog = s.faultLog ∧ t.fault = s.fault ∧
      t.freqRaw = decodeFreq s.rxbuf ∧ t.rpm = speedOf (decodeFreq s.rxbuf))

/-- 10_state.md R31: TXERR is set by a failed write with HAS_TX_ERR alone, cleared by acceptance and reset alone, and is 0
while HAS_TX_ERR is false. -/
def Obligations.ErrorLatchFollowsWrites : Prop :=
  ∀ s t : State, step s = .next t →
    (s.txerr = false → t.txerr = true → s.phase = .txWrite ∧ s.cfg.hasTxErr = true ∧ writeAnswer (moveUsed s) 0 = true) ∧
    (s.txerr = true → t.txerr = false →
      (s.phase = .idle ∧ (t.phase = .txAssert ∨ t.phase = .rxFlush)) ∨ nextMove s = .reset) ∧
    (s.phase = .idle → t.phase ≠ .idle → t.txerr = false) ∧
    (Inv s → s.cfg.hasTxErr = false → t.txerr = false)

/-- 10_state.md R21: nothing but TURN_ON, TURN_OFF and reset changes RUN: only at completion, without an error. -/
def Obligations.RunChangesOnlyByPowerCommands : Prop :=
  ∀ s t : State, step s = .next t → t.run ≠ s.run →
    (nextMove s = .reset ∧ t.run = false) ∨
    (s.phase = .txGuard ∧ s.txerr = false ∧ ((s.op = .turnOn ∧ t.run = true) ∨ (s.op = .turnOff ∧ t.run = false)))

/-- 10_state.md R30: only `DirAssert`, `DirDeassert` and reset write DIR. -/
def Obligations.LineChangesOnlyByItsEvents : Prop :=
  ∀ s t : State, step s = .next t → t.dir ≠ s.dir →
    (nextMove s = .reset ∧ t.dir = false) ∨
    (s.phase = .txAssert ∧ t.dir = true ∧ t.trace = s.trace ++ [.dirAssert]) ∨
    (s.phase = .txRelease ∧ t.dir = false ∧ t.trace = s.trace ++ [.dirDeassert])

/-- FREQ_CMD is written by building a speed frame and by reset alone (10_state.md R22; the FRAME_SPEED row by the model's
choice, log 6; the reset value, log 2). -/
def Obligations.FreqCmdChangesOnlyBySpeedFrames : Prop :=
  ∀ s t : State, step s = .next t → t.freqCmd ≠ s.freqCmd →
    nextMove s = .reset ∨
    (s.phase = .idle ∧ ∃ p ∈ s.inbox.head?, t.txbuf = speedFrame s.cfg.speedD3 t.freqCmd ∧
      ((∃ rpm, decodeFor s.cfg.speedD3 p = .ok (.setSpeed rpm) ∧ t.freqCmd = freq16 rpm) ∨
        ∃ d1 d2 x a, decodeFor s.cfg.speedD3 p = .ok (.frameSpeed d1 d2 x a) ∧ t.freqCmd = joinBytes d1 d2))

/-- 10_state.md R29: the parameters cannot be changed while the block runs. -/
def Obligations.ParametersNeverChange : Prop :=
  ∀ s t : State, step s = .next t → t.cfg = s.cfg

/-- 20_memory.md R60: one totally ordered trace, which only grows, by at most the two events of a flush check. -/
def Obligations.TraceOnlyGrows : Prop :=
  ∀ s t : State, step s = .next t → ∃ es, t.trace = s.trace ++ es ∧ es.length ≤ 2

/-- 42_tx_sequencer.md R125, 43_rx_parser.md R145: a byte is written only in TX_WRITE with the line asserted; a byte is read,
beside whatever other event, only in RX_FLUSH and RX_READ with the line deasserted; and a byte the block takes from the
FIFO is the oldest one and is read in the trace. -/
def Obligations.BytesMoveOnlyInTheirPhases : Prop :=
  ∀ s t : State, Inv s → step s = .next t →
    (writtenBytes t.trace ≠ writtenBytes s.trace → s.phase = .txWrite ∧ s.dir = true) ∧
    (readBytes t.trace ≠ readBytes s.trace → (s.phase = .rxFlush ∨ s.phase = .rxRead) ∧ s.dir = false) ∧
    (nextMove s = .block → t.rxFifo.length < s.rxFifo.length →
      (s.phase = .rxFlush ∨ s.phase = .rxRead) ∧ s.dir = false ∧
        ∃ b, s.rxFifo = b :: t.rxFifo ∧ readBytes t.trace = readBytes s.trace ++ [b]) ∧
    (∀ b, t.trace = s.trace ++ [.rxRead b] → s.phase = .rxRead ∧ s.dir = false) ∧
    (∀ b, t.trace = s.trace ++ [.rxReadable true, .rxRead b] → s.phase = .rxFlush ∧ s.dir = false)

/-- 60_exceptions.md R191, R192, R196, R198: fault entry is precise: one fault, raised by its operation in its phase under its
condition, its code in FAULT, PHASE = IDLE, the line deasserted, nothing else of the block's results written. -/
def Obligations.FaultEntryIsPrecise : Prop :=
  ∀ s t : State, Inv s → step s = .next t → t.faultLog ≠ s.faultLog →
    ∃ k : FaultKind, t.faultLog = s.faultLog ++ [k] ∧ t.fault = k.code ∧ t.phase = .idle ∧ t.dir = false ∧
      ((k = .transportError ∧ s.phase = .txGuard ∧ s.op ≠ .reportSpeed ∧ s.cfg.hasTxErr = true ∧ s.txerr = true) ∨
        (k = .responseTimeout ∧ s.phase = .rxRead ∧ s.op = .reportSpeed ∧ s.cfg.rxTimeout.isSome = true) ∨
        (k = .protocolFramingError ∧ s.phase = .rxDecode ∧ s.op = .reportSpeed ∧ s.cfg.rxCheckFixed = true ∧
          fixedBytesOk s.rxbuf = false)) ∧
      t.run = s.run ∧ t.freqCmd = s.freqCmd ∧ t.freqRaw = s.freqRaw ∧ t.rpm = s.rpm ∧ t.rxbuf = s.rxbuf ∧
      t.txbuf = s.txbuf

/-- 60_exceptions.md R197: while the block is idle FAULT keeps its value; acceptance of any operation (or reset)
clears it. -/
def Obligations.FaultKeptUntilAcceptance : Prop :=
  ∀ s t : State, s.phase = .idle → step s = .next t →
    (t.fault ≠ s.fault → t.fault = 0 ∧ (t.phase ≠ .idle ∨ nextMove s = .reset)) ∧
    (t.phase ≠ .idle → t.fault = 0)

/-- 00_scope.md R11, R12: what the host, the drive, the transport and time do between block steps touches no register
of the block but the timer of RX_READ, and the trace not at all. -/
def Obligations.EnvironmentTouchesNoRegister : Prop :=
  ∀ (m : Move) (s : State), m ≠ .reset →
    environment m s = { s with
      rxTimer := (environment m s).rxTimer, rxFifo := (environment m s).rxFifo, txPort := (environment m s).txPort
      wire := (environment m s).wire, inbox := (environment m s).inbox, hostLog := (environment m s).hostLog
      freeCtr := (environment m s).freeCtr }

/-- 44_controller_ops.md R170, R179, 10_state.md R20: a host read changes nothing the block has; idle it returns what the
register holds, each register spelled out; BUSY is always what PHASE says (R32). -/
def Obligations.HostReadsRegisters : Prop :=
  ∀ (r : HostReg) (s : State), nextMove s = .hostRead r →
    ∃ t v, step s = .next t ∧ t.hostLog = s.hostLog ++ [(r, v)] ∧
      t = { moveUsed s with hostLog := t.hostLog, freeCtr := t.freeCtr } ∧
      (s.phase = .idle →
        match r with
        | .run => v = if s.run = true then 1 else 0
        | .freqCmd => v = s.freqCmd
        | .rxbuf i => v.toNat = s.rxbuf[i].toNat
        | .freqRaw => v = s.freqRaw
        | .rpm => v = s.rpm
        | .fault => v.toNat = s.fault.toNat
        | .busy => v = 0) ∧
      (r = .busy → v = if s.phase = .idle then 0 else 1)
end

