-- ==== Sys2Proof/Laws/Arithmetic.lean ====
section
/-! SUPPORT. The operands' arithmetic on natural numbers: one lemma per function. -/

namespace Sys2Proof.Machine

theorem hiByte_toNat (f : Half) : (hiByte f).toNat = f.toNat / 256 := by
  have := f.isLt
  simp [hiByte, BitVec.extractLsb'_toNat, Nat.shiftRight_eq_div_pow]; omega

theorem loByte_toNat (f : Half) : (loByte f).toNat = f.toNat % 256 := by
  simp [loByte, BitVec.extractLsb'_toNat]

theorem joinBytes_toNat (hi lo : Byte) : (joinBytes hi lo).toNat = hi.toNat * 256 + lo.toNat := by
  have h : (joinBytes hi lo).toNat = hi.toNat <<< 8 ||| lo.toNat := BitVec.toNat_append hi lo
  rw [h, ← Nat.shiftLeft_add_eq_or_of_lt lo.isLt, Nat.shiftLeft_eq]

/-- Splitting and joining a frequency (20_memory.md R54). -/
theorem joinBytes_hiByte_loByte (f : Half) : joinBytes (hiByte f) (loByte f) = f := by
  apply BitVec.eq_of_toNat_eq
  rw [joinBytes_toNat, hiByte_toNat, loByte_toNat]; omega

theorem hiByte_joinBytes (hi lo : Byte) : hiByte (joinBytes hi lo) = hi := by
  apply BitVec.eq_of_toNat_eq
  have := lo.isLt
  rw [hiByte_toNat, joinBytes_toNat]; omega

theorem loByte_joinBytes (hi lo : Byte) : loByte (joinBytes hi lo) = lo := by
  apply BitVec.eq_of_toNat_eq
  have := lo.isLt
  rw [loByte_toNat, joinBytes_toNat]; omega

/-- FREQ16 as the spec computes it (41_frame_builder.md R113). -/
theorem freq16_toNat (rpm : Rpm) : (freq16 rpm).toNat = rpm.toNat / 60 * 100 % 65536 := by simp [freq16]

/-- The digit sum of any 13 bytes (43_rx_parser.md R152: at most 2833305). -/
theorem digitSum_le (rx : Vector Byte 13) : digitSum rx ≤ 2833305 := by
  have h2 := rx[2].isLt
  have h3 := rx[3].isLt
  have h4 := rx[4].isLt
  have h5 := rx[5].isLt
  have h6 := rx[6].isLt
  simp only [digitSum]; omega

/-- FREQ_RAW never wraps (10_state.md R25: at most 28333). -/
theorem decodeFreq_toNat (rx : Vector Byte 13) : (decodeFreq rx).toNat = digitSum rx / 100 := by
  have := digitSum_le rx
  simp only [decodeFreq, BitVec.toNat_ofNat]; omega

/-- RPM never wraps (10_state.md R26: at most 16980 from a decoded frequency). -/
theorem speedOf_toNat (f : Half) : (speedOf f).toNat = f.toNat / 100 * 60 := by
  have := f.isLt
  simp only [speedOf, BitVec.toNat_ofNat]; omega

end Sys2Proof.Machine
end

