-- ==== Sys2Proof/Laws/Encoding.lean ====
section
/-! SUPPORT. Small lemmas about the words: ARG and its four bytes, OP and its code. -/

namespace Sys2Proof

@[simp] theorem HostOp.ofCode_code (o : HostOp) : HostOp.ofCode o.code = o := by cases o <;> rfl

theorem HostOp.code_ofCode (c : BitVec 2) : (HostOp.ofCode c).code = c := by revert c; decide

/-- A word decodes to an instruction of its own format. -/
theorem decode_format {p : Presented} {i : Instr} (h : decode p = .ok i) : i.format = p.fmt := by
  obtain ⟨f, l⟩ := p
  cases f <;> simp only [decode] at h
  · unfold decodeHostCmd at h
    split at h
    · split at h
      · injection h with h; subst h; simp only [Instr.ofHostOp]; split <;> rfl
      · cases h
    · cases h
  · unfold decodeCmdFrame at h
    split at h
    · (repeat' split at h) <;> cases h <;> rfl
    · cases h
  · unfold decodeStatFrame at h
    split at h
    · split at h
      · injection h with h; subst h; rfl
      · cases h
    · cases h

/-- What the table's rows decode a block of any SPEED_D3 decodes alike. -/
theorem decodeFor_of_decode {d : Byte} {p : Presented} {i : Instr} (h : decode p = .ok i) : decodeFor d p = .ok i := by
  simp [decodeFor, h]

/-- What the decoder of a block can answer: an instruction of the table, or its own speed frame. -/
theorem decodeFor_cases {d : Byte} {p : Presented} {i : Instr} (h : decodeFor d p = .ok i) :
    decode p = .ok i ∨
    ∃ d1 d2 x a, i = .frameSpeed d1 d2 x a ∧ p = ⟨.cmdFrame, [0x00, 0x55, d1, d2, d, 0x01, x, a, 0xFF]⟩ := by
  have e : ∀ z : Byte, z &&& 255#8 = z := by decide
  unfold decodeFor at h
  split at h
  · injection h with h; subst h; exact .inl ‹_›
  · obtain ⟨f, l⟩ := p
    cases f <;> simp only at h
    · cases h
    · split at h
      · injection h with h; subst h
        rename_i hs
        unfold decodeSpeedFrame at hs
        split at hs
        · split at hs
          · rename_i ha
            injection hs with hs
            simp [FrameRow.admits, rowSpeedOf, rowSpeed, e] at ha
            obtain ⟨h0, h1, h4, h5, h8⟩ := ha
            exact .inr ⟨_, _, _, _, hs.symm, by simp [h0, h1, h4, h5, h8]⟩
          · cases hs
        · cases hs
      · cases h
    · cases h

/-- A block decodes a word to an instruction of the word's format. -/
theorem decodeFor_format {d : Byte} {p : Presented} {i : Instr} (h : decodeFor d p = .ok i) : i.format = p.fmt := by
  obtain h | ⟨_, _, _, _, rfl, rfl⟩ := decodeFor_cases h
  · exact decode_format h
  · rfl

/-- The four bytes of ARG put together are ARG. -/
theorem argOfBytes_extract (arg : Rpm) :
    argOfBytes (arg.extractLsb' 0 8) (arg.extractLsb' 8 8) (arg.extractLsb' 16 8) (arg.extractLsb' 24 8) = arg := by
  apply BitVec.eq_of_getLsbD_eq
  intro i hi
  simp only [argOfBytes, BitVec.getLsbD_append, BitVec.getLsbD_extractLsb']
  split_ifs <;> rw [decide_eq_true (by omega), Bool.true_and] <;> congr 1 <;> omega

/-- Four bytes are the bytes of the ARG they make. -/
theorem argBytes_argOfBytes (a0 a1 a2 a3 : Byte) : argBytes (argOfBytes a0 a1 a2 a3) = [a0, a1, a2, a3] := by
  simp only [argBytes, argOfBytes, List.cons.injEq, and_true]
  refine ⟨?_, ?_, ?_, ?_⟩ <;> apply BitVec.eq_of_getLsbD_eq <;> intro i hi <;>
    simp only [BitVec.getLsbD_extractLsb', BitVec.getLsbD_append, decide_eq_true hi, Bool.true_and] <;>
    split_ifs <;> (try omega) <;> congr 1 <;> omega

/-- A HOSTCMD word decodes to its operation with its operand, whatever it is. -/
theorem decode_encodeHostCmd (o : HostOp) (arg : Rpm) : decode (encodeHostCmd o arg) = .ok (.ofHostOp o arg) := by
  simp only [decode, encodeHostCmd, decodeHostCmd, argBytes]
  rw [argOfBytes_extract, if_pos (by cases o <;> decide)]
  congr 2; cases o <;> decide

end Sys2Proof
end

