-- ==== Sys2Proof/Laws/State.lean ====
section
/-! SUPPORT. One lemma per field per named update of the state, so that no later proof unfolds an update. -/

namespace Sys2Proof.Machine

@[simp] theorem emit_run (e : Event) (s : State) : (emit e s).run = s.run := rfl
@[simp] theorem emit_freqCmd (e : Event) (s : State) : (emit e s).freqCmd = s.freqCmd := rfl
@[simp] theorem emit_txbuf (e : Event) (s : State) : (emit e s).txbuf = s.txbuf := rfl
@[simp] theorem emit_rxbuf (e : Event) (s : State) : (emit e s).rxbuf = s.rxbuf := rfl
@[simp] theorem emit_freqRaw (e : Event) (s : State) : (emit e s).freqRaw = s.freqRaw := rfl
@[simp] theorem emit_rpm (e : Event) (s : State) : (emit e s).rpm = s.rpm := rfl
@[simp] theorem emit_fault (e : Event) (s : State) : (emit e s).fault = s.fault := rfl
@[simp] theorem emit_dir (e : Event) (s : State) : (emit e s).dir = s.dir := rfl
@[simp] theorem emit_phase (e : Event) (s : State) : (emit e s).phase = s.phase := rfl
@[simp] theorem emit_idx (e : Event) (s : State) : (emit e s).idx = s.idx := rfl
@[simp] theorem emit_op (e : Event) (s : State) : (emit e s).op = s.op := rfl
@[simp] theorem emit_arg (e : Event) (s : State) : (emit e s).arg = s.arg := rfl
@[simp] theorem emit_txerr (e : Event) (s : State) : (emit e s).txerr = s.txerr := rfl
@[simp] theorem emit_rxTimer (e : Event) (s : State) : (emit e s).rxTimer = s.rxTimer := rfl
@[simp] theorem emit_rxFifo (e : Event) (s : State) : (emit e s).rxFifo = s.rxFifo := rfl
@[simp] theorem emit_txPort (e : Event) (s : State) : (emit e s).txPort = s.txPort := rfl
@[simp] theorem emit_wire (e : Event) (s : State) : (emit e s).wire = s.wire := rfl
@[simp] theorem emit_cfg (e : Event) (s : State) : (emit e s).cfg = s.cfg := rfl
@[simp] theorem emit_trace (e : Event) (s : State) : (emit e s).trace = s.trace ++ [e] := rfl
@[simp] theorem emit_faultLog (e : Event) (s : State) : (emit e s).faultLog = s.faultLog := rfl
@[simp] theorem emit_hostLog (e : Event) (s : State) : (emit e s).hostLog = s.hostLog := rfl
@[simp] theorem emit_inbox (e : Event) (s : State) : (emit e s).inbox = s.inbox := rfl
@[simp] theorem emit_schedule (e : Event) (s : State) : (emit e s).schedule = s.schedule := rfl
@[simp] theorem emit_beyond (e : Event) (s : State) : (emit e s).beyond = s.beyond := rfl
@[simp] theorem emit_txErrs (e : Event) (s : State) : (emit e s).txErrs = s.txErrs := rfl
@[simp] theorem emit_freeCtr (e : Event) (s : State) : (emit e s).freeCtr = s.freeCtr := rfl

@[simp] theorem goTo_run (p : Phase) (s : State) : (goTo p s).run = s.run := rfl
@[simp] theorem goTo_freqCmd (p : Phase) (s : State) : (goTo p s).freqCmd = s.freqCmd := rfl
@[simp] theorem goTo_txbuf (p : Phase) (s : State) : (goTo p s).txbuf = s.txbuf := rfl
@[simp] theorem goTo_rxbuf (p : Phase) (s : State) : (goTo p s).rxbuf = s.rxbuf := rfl
@[simp] theorem goTo_freqRaw (p : Phase) (s : State) : (goTo p s).freqRaw = s.freqRaw := rfl
@[simp] theorem goTo_rpm (p : Phase) (s : State) : (goTo p s).rpm = s.rpm := rfl
@[simp] theorem goTo_fault (p : Phase) (s : State) : (goTo p s).fault = s.fault := rfl
@[simp] theorem goTo_dir (p : Phase) (s : State) : (goTo p s).dir = s.dir := rfl
@[simp] theorem goTo_phase (p : Phase) (s : State) : (goTo p s).phase = p := rfl
@[simp] theorem goTo_idx (p : Phase) (s : State) : (goTo p s).idx = s.idx := rfl
@[simp] theorem goTo_op (p : Phase) (s : State) : (goTo p s).op = s.op := rfl
@[simp] theorem goTo_arg (p : Phase) (s : State) : (goTo p s).arg = s.arg := rfl
@[simp] theorem goTo_txerr (p : Phase) (s : State) : (goTo p s).txerr = s.txerr := rfl
@[simp] theorem goTo_rxTimer (p : Phase) (s : State) : (goTo p s).rxTimer = s.rxTimer := rfl
@[simp] theorem goTo_rxFifo (p : Phase) (s : State) : (goTo p s).rxFifo = s.rxFifo := rfl
@[simp] theorem goTo_txPort (p : Phase) (s : State) : (goTo p s).txPort = s.txPort := rfl
@[simp] theorem goTo_wire (p : Phase) (s : State) : (goTo p s).wire = s.wire := rfl
@[simp] theorem goTo_cfg (p : Phase) (s : State) : (goTo p s).cfg = s.cfg := rfl
@[simp] theorem goTo_trace (p : Phase) (s : State) : (goTo p s).trace = s.trace := rfl
@[simp] theorem goTo_faultLog (p : Phase) (s : State) : (goTo p s).faultLog = s.faultLog := rfl
@[simp] theorem goTo_hostLog (p : Phase) (s : State) : (goTo p s).hostLog = s.hostLog := rfl
@[simp] theorem goTo_inbox (p : Phase) (s : State) : (goTo p s).inbox = s.inbox := rfl
@[simp] theorem goTo_schedule (p : Phase) (s : State) : (goTo p s).schedule = s.schedule := rfl
@[simp] theorem goTo_beyond (p : Phase) (s : State) : (goTo p s).beyond = s.beyond := rfl
@[simp] theorem goTo_txErrs (p : Phase) (s : State) : (goTo p s).txErrs = s.txErrs := rfl
@[simp] theorem goTo_freeCtr (p : Phase) (s : State) : (goTo p s).freeCtr = s.freeCtr := rfl

@[simp] theorem dirAssert_run (s : State) : (dirAssert s).run = s.run := rfl
@[simp] theorem dirAssert_freqCmd (s : State) : (dirAssert s).freqCmd = s.freqCmd := rfl
@[simp] theorem dirAssert_txbuf (s : State) : (dirAssert s).txbuf = s.txbuf := rfl
@[simp] theorem dirAssert_rxbuf (s : State) : (dirAssert s).rxbuf = s.rxbuf := rfl
@[simp] theorem dirAssert_freqRaw (s : State) : (dirAssert s).freqRaw = s.freqRaw := rfl
@[simp] theorem dirAssert_rpm (s : State) : (dirAssert s).rpm = s.rpm := rfl
@[simp] theorem dirAssert_fault (s : State) : (dirAssert s).fault = s.fault := rfl
@[simp] theorem dirAssert_dir (s : State) : (dirAssert s).dir = true := rfl
@[simp] theorem dirAssert_phase (s : State) : (dirAssert s).phase = s.phase := rfl
@[simp] theorem dirAssert_idx (s : State) : (dirAssert s).idx = s.idx := rfl
@[simp] theorem dirAssert_op (s : State) : (dirAssert s).op = s.op := rfl
@[simp] theorem dirAssert_arg (s : State) : (dirAssert s).arg = s.arg := rfl
@[simp] theorem dirAssert_txerr (s : State) : (dirAssert s).txerr = s.txerr := rfl
@[simp] theorem dirAssert_rxTimer (s : State) : (dirAssert s).rxTimer = s.rxTimer := rfl
@[simp] theorem dirAssert_rxFifo (s : State) : (dirAssert s).rxFifo = s.rxFifo := rfl
@[simp] theorem dirAssert_txPort (s : State) : (dirAssert s).txPort = s.txPort := rfl
@[simp] theorem dirAssert_wire (s : State) : (dirAssert s).wire = s.wire := rfl
@[simp] theorem dirAssert_cfg (s : State) : (dirAssert s).cfg = s.cfg := rfl
@[simp] theorem dirAssert_trace (s : State) : (dirAssert s).trace = s.trace ++ [.dirAssert] := rfl
@[simp] theorem dirAssert_faultLog (s : State) : (dirAssert s).faultLog = s.faultLog := rfl
@[simp] theorem dirAssert_hostLog (s : State) : (dirAssert s).hostLog = s.hostLog := rfl
@[simp] theorem dirAssert_inbox (s : State) : (dirAssert s).inbox = s.inbox := rfl
@[simp] theorem dirAssert_schedule (s : State) : (dirAssert s).schedule = s.schedule := rfl
@[simp] theorem dirAssert_beyond (s : State) : (dirAssert s).beyond = s.beyond := rfl
@[simp] theorem dirAssert_txErrs (s : State) : (dirAssert s).txErrs = s.txErrs := rfl
@[simp] theorem dirAssert_freeCtr (s : State) : (dirAssert s).freeCtr = s.freeCtr := rfl

@[simp] theorem dirDeassert_run (s : State) : (dirDeassert s).run = s.run := rfl
@[simp] theorem dirDeassert_freqCmd (s : State) : (dirDeassert s).freqCmd = s.freqCmd := rfl
@[simp] theorem dirDeassert_txbuf (s : State) : (dirDeassert s).txbuf = s.txbuf := rfl
@[simp] theorem dirDeassert_rxbuf (s : State) : (dirDeassert s).rxbuf = s.rxbuf := rfl
@[simp] theorem dirDeassert_freqRaw (s : State) : (dirDeassert s).freqRaw = s.freqRaw := rfl
@[simp] theorem dirDeassert_rpm (s : State) : (dirDeassert s).rpm = s.rpm := rfl
@[simp] theorem dirDeassert_fault (s : State) : (dirDeassert s).fault = s.fault := rfl
@[simp] theorem dirDeassert_dir (s : State) : (dirDeassert s).dir = false := rfl
@[simp] theorem dirDeassert_phase (s : State) : (dirDeassert s).phase = s.phase := rfl
@[simp] theorem dirDeassert_idx (s : State) : (dirDeassert s).idx = s.idx := rfl
@[simp] theorem dirDeassert_op (s : State) : (dirDeassert s).op = s.op := rfl
@[simp] theorem dirDeassert_arg (s : State) : (dirDeassert s).arg = s.arg := rfl
@[simp] theorem dirDeassert_txerr (s : State) : (dirDeassert s).txerr = s.txerr := rfl
@[simp] theorem dirDeassert_rxTimer (s : State) : (dirDeassert s).rxTimer = s.rxTimer := rfl
@[simp] theorem dirDeassert_rxFifo (s : State) : (dirDeassert s).rxFifo = s.rxFifo := rfl
@[simp] theorem dirDeassert_txPort (s : State) : (dirDeassert s).txPort = s.txPort := rfl
@[simp] theorem dirDeassert_wire (s : State) : (dirDeassert s).wire = s.wire := rfl
@[simp] theorem dirDeassert_cfg (s : State) : (dirDeassert s).cfg = s.cfg := rfl
@[simp] theorem dirDeassert_trace (s : State) : (dirDeassert s).trace = s.trace ++ [.dirDeassert] := rfl
@[simp] theorem dirDeassert_faultLog (s : State) : (dirDeassert s).faultLog = s.faultLog := rfl
@[simp] theorem dirDeassert_hostLog (s : State) : (dirDeassert s).hostLog = s.hostLog := rfl
@[simp] theorem dirDeassert_inbox (s : State) : (dirDeassert s).inbox = s.inbox := rfl
@[simp] theorem dirDeassert_schedule (s : State) : (dirDeassert s).schedule = s.schedule := rfl
@[simp] theorem dirDeassert_beyond (s : State) : (dirDeassert s).beyond = s.beyond := rfl
@[simp] theorem dirDeassert_txErrs (s : State) : (dirDeassert s).txErrs = s.txErrs := rfl
@[simp] theorem dirDeassert_freeCtr (s : State) : (dirDeassert s).freeCtr = s.freeCtr := rfl

@[simp] theorem delay_run (n : Nat) (s : State) : (delay n s).run = s.run := rfl
@[simp] theorem delay_freqCmd (n : Nat) (s : State) : (delay n s).freqCmd = s.freqCmd := rfl
@[simp] theorem delay_txbuf (n : Nat) (s : State) : (delay n s).txbuf = s.txbuf := rfl
@[simp] theorem delay_rxbuf (n : Nat) (s : State) : (delay n s).rxbuf = s.rxbuf := rfl
@[simp] theorem delay_freqRaw (n : Nat) (s : State) : (delay n s).freqRaw = s.freqRaw := rfl
@[simp] theorem delay_rpm (n : Nat) (s : State) : (delay n s).rpm = s.rpm := rfl
@[simp] theorem delay_fault (n : Nat) (s : State) : (delay n s).fault = s.fault := rfl
@[simp] theorem delay_dir (n : Nat) (s : State) : (delay n s).dir = s.dir := rfl
@[simp] theorem delay_phase (n : Nat) (s : State) : (delay n s).phase = s.phase := rfl
@[simp] theorem delay_idx (n : Nat) (s : State) : (delay n s).idx = s.idx := rfl
@[simp] theorem delay_op (n : Nat) (s : State) : (delay n s).op = s.op := rfl
@[simp] theorem delay_arg (n : Nat) (s : State) : (delay n s).arg = s.arg := rfl
@[simp] theorem delay_txerr (n : Nat) (s : State) : (delay n s).txerr = s.txerr := rfl
@[simp] theorem delay_rxTimer (n : Nat) (s : State) : (delay n s).rxTimer = s.rxTimer := rfl
@[simp] theorem delay_rxFifo (n : Nat) (s : State) : (delay n s).rxFifo = s.rxFifo := rfl
@[simp] theorem delay_txPort (n : Nat) (s : State) : (delay n s).txPort = s.txPort := rfl
@[simp] theorem delay_wire (n : Nat) (s : State) : (delay n s).wire = s.wire := rfl
@[simp] theorem delay_cfg (n : Nat) (s : State) : (delay n s).cfg = s.cfg := rfl
@[simp] theorem delay_trace (n : Nat) (s : State) : (delay n s).trace = s.trace ++ [.delay n] := rfl
@[simp] theorem delay_faultLog (n : Nat) (s : State) : (delay n s).faultLog = s.faultLog := rfl
@[simp] theorem delay_hostLog (n : Nat) (s : State) : (delay n s).hostLog = s.hostLog := rfl
@[simp] theorem delay_inbox (n : Nat) (s : State) : (delay n s).inbox = s.inbox := rfl
@[simp] theorem delay_schedule (n : Nat) (s : State) : (delay n s).schedule = s.schedule := rfl
@[simp] theorem delay_beyond (n : Nat) (s : State) : (delay n s).beyond = s.beyond := rfl
@[simp] theorem delay_txErrs (n : Nat) (s : State) : (delay n s).txErrs = s.txErrs := rfl
@[simp] theorem delay_freeCtr (n : Nat) (s : State) : (delay n s).freeCtr = s.freeCtr := rfl

@[simp] theorem handOver_run (b : Byte) (s : State) : (handOver b s).run = s.run := rfl
@[simp] theorem handOver_freqCmd (b : Byte) (s : State) : (handOver b s).freqCmd = s.freqCmd := rfl
@[simp] theorem handOver_txbuf (b : Byte) (s : State) : (handOver b s).txbuf = s.txbuf := rfl
@[simp] theorem handOver_rxbuf (b : Byte) (s : State) : (handOver b s).rxbuf = s.rxbuf := rfl
@[simp] theorem handOver_freqRaw (b : Byte) (s : State) : (handOver b s).freqRaw = s.freqRaw := rfl
@[simp] theorem handOver_rpm (b : Byte) (s : State) : (handOver b s).rpm = s.rpm := rfl
@[simp] theorem handOver_fault (b : Byte) (s : State) : (handOver b s).fault = s.fault := rfl
@[simp] theorem handOver_dir (b : Byte) (s : State) : (handOver b s).dir = s.dir := rfl
@[simp] theorem handOver_phase (b : Byte) (s : State) : (handOver b s).phase = s.phase := rfl
@[simp] theorem handOver_idx (b : Byte) (s : State) : (handOver b s).idx = s.idx := rfl
@[simp] theorem handOver_op (b : Byte) (s : State) : (handOver b s).op = s.op := rfl
@[simp] theorem handOver_arg (b : Byte) (s : State) : (handOver b s).arg = s.arg := rfl
@[simp] theorem handOver_txerr (b : Byte) (s : State) : (handOver b s).txerr = s.txerr := rfl
@[simp] theorem handOver_rxTimer (b : Byte) (s : State) : (handOver b s).rxTimer = s.rxTimer := rfl
@[simp] theorem handOver_rxFifo (b : Byte) (s : State) : (handOver b s).rxFifo = s.rxFifo := rfl
@[simp] theorem handOver_txPort (b : Byte) (s : State) : (handOver b s).txPort = s.txPort ++ [b] := rfl
@[simp] theorem handOver_wire (b : Byte) (s : State) : (handOver b s).wire = s.wire := rfl
@[simp] theorem handOver_cfg (b : Byte) (s : State) : (handOver b s).cfg = s.cfg := rfl
@[simp] theorem handOver_trace (b : Byte) (s : State) : (handOver b s).trace = s.trace ++ [.txWrite b] := rfl
@[simp] theorem handOver_faultLog (b : Byte) (s : State) : (handOver b s).faultLog = s.faultLog := rfl
@[simp] theorem handOver_hostLog (b : Byte) (s : State) : (handOver b s).hostLog = s.hostLog := rfl
@[simp] theorem handOver_inbox (b : Byte) (s : State) : (handOver b s).inbox = s.inbox := rfl
@[simp] theorem handOver_schedule (b : Byte) (s : State) : (handOver b s).schedule = s.schedule := rfl
@[simp] theorem handOver_beyond (b : Byte) (s : State) : (handOver b s).beyond = s.beyond := rfl
@[simp] theorem handOver_txErrs (b : Byte) (s : State) : (handOver b s).txErrs = s.txErrs := rfl
@[simp] theorem handOver_freeCtr (b : Byte) (s : State) : (handOver b s).freeCtr = s.freeCtr := rfl

@[simp] theorem rxReadable_run (s : State) : (rxReadable s).run = s.run := rfl
@[simp] theorem rxReadable_freqCmd (s : State) : (rxReadable s).freqCmd = s.freqCmd := rfl
@[simp] theorem rxReadable_txbuf (s : State) : (rxReadable s).txbuf = s.txbuf := rfl
@[simp] theorem rxReadable_rxbuf (s : State) : (rxReadable s).rxbuf = s.rxbuf := rfl
@[simp] theorem rxReadable_freqRaw (s : State) : (rxReadable s).freqRaw = s.freqRaw := rfl
@[simp] theorem rxReadable_rpm (s : State) : (rxReadable s).rpm = s.rpm := rfl
@[simp] theorem rxReadable_fault (s : State) : (rxReadable s).fault = s.fault := rfl
@[simp] theorem rxReadable_dir (s : State) : (rxReadable s).dir = s.dir := rfl
@[simp] theorem rxReadable_phase (s : State) : (rxReadable s).phase = s.phase := rfl
@[simp] theorem rxReadable_idx (s : State) : (rxReadable s).idx = s.idx := rfl
@[simp] theorem rxReadable_op (s : State) : (rxReadable s).op = s.op := rfl
@[simp] theorem rxReadable_arg (s : State) : (rxReadable s).arg = s.arg := rfl
@[simp] theorem rxReadable_txerr (s : State) : (rxReadable s).txerr = s.txerr := rfl
@[simp] theorem rxReadable_rxTimer (s : State) : (rxReadable s).rxTimer = s.rxTimer := rfl
@[simp] theorem rxReadable_rxFifo (s : State) : (rxReadable s).rxFifo = s.rxFifo := rfl
@[simp] theorem rxReadable_txPort (s : State) : (rxReadable s).txPort = s.txPort := rfl
@[simp] theorem rxReadable_wire (s : State) : (rxReadable s).wire = s.wire := rfl
@[simp] theorem rxReadable_cfg (s : State) : (rxReadable s).cfg = s.cfg := rfl
@[simp] theorem rxReadable_trace (s : State) : (rxReadable s).trace = s.trace ++ [.rxReadable (!s.rxFifo.isEmpty)] := rfl
@[simp] theorem rxReadable_faultLog (s : State) : (rxReadable s).faultLog = s.faultLog := rfl
@[simp] theorem rxReadable_hostLog (s : State) : (rxReadable s).hostLog = s.hostLog := rfl
@[simp] theorem rxReadable_inbox (s : State) : (rxReadable s).inbox = s.inbox := rfl
@[simp] theorem rxReadable_schedule (s : State) : (rxReadable s).schedule = s.schedule := rfl
@[simp] theorem rxReadable_beyond (s : State) : (rxReadable s).beyond = s.beyond := rfl
@[simp] theorem rxReadable_txErrs (s : State) : (rxReadable s).txErrs = s.txErrs := rfl
@[simp] theorem rxReadable_freeCtr (s : State) : (rxReadable s).freeCtr = s.freeCtr := rfl

@[simp] theorem rxRead_run (b : Byte) (l : List Byte) (s : State) : (rxRead b l s).run = s.run := rfl
@[simp] theorem rxRead_freqCmd (b : Byte) (l : List Byte) (s : State) : (rxRead b l s).freqCmd = s.freqCmd := rfl
@[simp] theorem rxRead_txbuf (b : Byte) (l : List Byte) (s : State) : (rxRead b l s).txbuf = s.txbuf := rfl
@[simp] theorem rxRead_rxbuf (b : Byte) (l : List Byte) (s : State) : (rxRead b l s).rxbuf = s.rxbuf := rfl
@[simp] theorem rxRead_freqRaw (b : Byte) (l : List Byte) (s : State) : (rxRead b l s).freqRaw = s.freqRaw := rfl
@[simp] theorem rxRead_rpm (b : Byte) (l : List Byte) (s : State) : (rxRead b l s).rpm = s.rpm := rfl
@[simp] theorem rxRead_fault (b : Byte) (l : List Byte) (s : State) : (rxRead b l s).fault = s.fault := rfl
@[simp] theorem rxRead_dir (b : Byte) (l : List Byte) (s : State) : (rxRead b l s).dir = s.dir := rfl
@[simp] theorem rxRead_phase (b : Byte) (l : List Byte) (s : State) : (rxRead b l s).phase = s.phase := rfl
@[simp] theorem rxRead_idx (b : Byte) (l : List Byte) (s : State) : (rxRead b l s).idx = s.idx := rfl
@[simp] theorem rxRead_op (b : Byte) (l : List Byte) (s : State) : (rxRead b l s).op = s.op := rfl
@[simp] theorem rxRead_arg (b : Byte) (l : List Byte) (s : State) : (rxRead b l s).arg = s.arg := rfl
@[simp] theorem rxRead_txerr (b : Byte) (l : List Byte) (s : State) : (rxRead b l s).txerr = s.txerr := rfl
@[simp] theorem rxRead_rxTimer (b : Byte) (l : List Byte) (s : State) : (rxRead b l s).rxTimer = s.rxTimer := rfl
@[simp] theorem rxRead_rxFifo (b : Byte) (l : List Byte) (s : State) : (rxRead b l s).rxFifo = l := rfl
@[simp] theorem rxRead_txPort (b : Byte) (l : List Byte) (s : State) : (rxRead b l s).txPort = s.txPort := rfl
@[simp] theorem rxRead_wire (b : Byte) (l : List Byte) (s : State) : (rxRead b l s).wire = s.wire := rfl
@[simp] theorem rxRead_cfg (b : Byte) (l : List Byte) (s : State) : (rxRead b l s).cfg = s.cfg := rfl
@[simp] theorem rxRead_trace (b : Byte) (l : List Byte) (s : State) : (rxRead b l s).trace = s.trace ++ [.rxRead b] := rfl
@[simp] theorem rxRead_faultLog (b : Byte) (l : List Byte) (s : State) : (rxRead b l s).faultLog = s.faultLog := rfl
@[simp] theorem rxRead_hostLog (b : Byte) (l : List Byte) (s : State) : (rxRead b l s).hostLog = s.hostLog := rfl
@[simp] theorem rxRead_inbox (b : Byte) (l : List Byte) (s : State) : (rxRead b l s).inbox = s.inbox := rfl
@[simp] theorem rxRead_schedule (b : Byte) (l : List Byte) (s : State) : (rxRead b l s).schedule = s.schedule := rfl
@[simp] theorem rxRead_beyond (b : Byte) (l : List Byte) (s : State) : (rxRead b l s).beyond = s.beyond := rfl
@[simp] theorem rxRead_txErrs (b : Byte) (l : List Byte) (s : State) : (rxRead b l s).txErrs = s.txErrs := rfl
@[simp] theorem rxRead_freeCtr (b : Byte) (l : List Byte) (s : State) : (rxRead b l s).freeCtr = s.freeCtr := rfl

@[simp] theorem arrive_run (l : List Byte) (s : State) : (arrive l s).run = s.run := rfl
@[simp] theorem arrive_freqCmd (l : List Byte) (s : State) : (arrive l s).freqCmd = s.freqCmd := rfl
@[simp] theorem arrive_txbuf (l : List Byte) (s : State) : (arrive l s).txbuf = s.txbuf := rfl
@[simp] theorem arrive_rxbuf (l : List Byte) (s : State) : (arrive l s).rxbuf = s.rxbuf := rfl
@[simp] theorem arrive_freqRaw (l : List Byte) (s : State) : (arrive l s).freqRaw = s.freqRaw := rfl
@[simp] theorem arrive_rpm (l : List Byte) (s : State) : (arrive l s).rpm = s.rpm := rfl
@[simp] theorem arrive_fault (l : List Byte) (s : State) : (arrive l s).fault = s.fault := rfl
@[simp] theorem arrive_dir (l : List Byte) (s : State) : (arrive l s).dir = s.dir := rfl
@[simp] theorem arrive_phase (l : List Byte) (s : State) : (arrive l s).phase = s.phase := rfl
@[simp] theorem arrive_idx (l : List Byte) (s : State) : (arrive l s).idx = s.idx := rfl
@[simp] theorem arrive_op (l : List Byte) (s : State) : (arrive l s).op = s.op := rfl
@[simp] theorem arrive_arg (l : List Byte) (s : State) : (arrive l s).arg = s.arg := rfl
@[simp] theorem arrive_txerr (l : List Byte) (s : State) : (arrive l s).txerr = s.txerr := rfl
@[simp] theorem arrive_rxTimer (l : List Byte) (s : State) : (arrive l s).rxTimer = s.rxTimer := rfl
@[simp] theorem arrive_rxFifo (l : List Byte) (s : State) : (arrive l s).rxFifo = s.rxFifo ++ l := rfl
@[simp] theorem arrive_txPort (l : List Byte) (s : State) : (arrive l s).txPort = s.txPort := rfl
@[simp] theorem arrive_wire (l : List Byte) (s : State) : (arrive l s).wire = s.wire := rfl
@[simp] theorem arrive_cfg (l : List Byte) (s : State) : (arrive l s).cfg = s.cfg := rfl
@[simp] theorem arrive_trace (l : List Byte) (s : State) : (arrive l s).trace = s.trace := rfl
@[simp] theorem arrive_faultLog (l : List Byte) (s : State) : (arrive l s).faultLog = s.faultLog := rfl
@[simp] theorem arrive_hostLog (l : List Byte) (s : State) : (arrive l s).hostLog = s.hostLog := rfl
@[simp] theorem arrive_inbox (l : List Byte) (s : State) : (arrive l s).inbox = s.inbox := rfl
@[simp] theorem arrive_schedule (l : List Byte) (s : State) : (arrive l s).schedule = s.schedule := rfl
@[simp] theorem arrive_beyond (l : List Byte) (s : State) : (arrive l s).beyond = s.beyond := rfl
@[simp] theorem arrive_txErrs (l : List Byte) (s : State) : (arrive l s).txErrs = s.txErrs := rfl
@[simp] theorem arrive_freeCtr (l : List Byte) (s : State) : (arrive l s).freeCtr = s.freeCtr := rfl

@[simp] theorem raiseFault_run (k : FaultKind) (s : State) : (raiseFault k s).run = s.run := rfl
@[simp] theorem raiseFault_freqCmd (k : FaultKind) (s : State) : (raiseFault k s).freqCmd = s.freqCmd := rfl
@[simp] theorem raiseFault_txbuf (k : FaultKind) (s : State) : (raiseFault k s).txbuf = s.txbuf := rfl
@[simp] theorem raiseFault_rxbuf (k : FaultKind) (s : State) : (raiseFault k s).rxbuf = s.rxbuf := rfl
@[simp] theorem raiseFault_freqRaw (k : FaultKind) (s : State) : (raiseFault k s).freqRaw = s.freqRaw := rfl
@[simp] theorem raiseFault_rpm (k : FaultKind) (s : State) : (raiseFault k s).rpm = s.rpm := rfl
@[simp] theorem raiseFault_fault (k : FaultKind) (s : State) : (raiseFault k s).fault = k.code := rfl
@[simp] theorem raiseFault_dir (k : FaultKind) (s : State) : (raiseFault k s).dir = s.dir := rfl
@[simp] theorem raiseFault_phase (k : FaultKind) (s : State) : (raiseFault k s).phase = .idle := rfl
@[simp] theorem raiseFault_idx (k : FaultKind) (s : State) : (raiseFault k s).idx = s.idx := rfl
@[simp] theorem raiseFault_op (k : FaultKind) (s : State) : (raiseFault k s).op = s.op := rfl
@[simp] theorem raiseFault_arg (k : FaultKind) (s : State) : (raiseFault k s).arg = s.arg := rfl
@[simp] theorem raiseFault_txerr (k : FaultKind) (s : State) : (raiseFault k s).txerr = s.txerr := rfl
@[simp] theorem raiseFault_rxTimer (k : FaultKind) (s : State) : (raiseFault k s).rxTimer = s.rxTimer := rfl
@[simp] theorem raiseFault_rxFifo (k : FaultKind) (s : State) : (raiseFault k s).rxFifo = s.rxFifo := rfl
@[simp] theorem raiseFault_txPort (k : FaultKind) (s : State) : (raiseFault k s).txPort = s.txPort := rfl
@[simp] theorem raiseFault_wire (k : FaultKind) (s : State) : (raiseFault k s).wire = s.wire := rfl
@[simp] theorem raiseFault_cfg (k : FaultKind) (s : State) : (raiseFault k s).cfg = s.cfg := rfl
@[simp] theorem raiseFault_trace (k : FaultKind) (s : State) : (raiseFault k s).trace = s.trace := rfl
@[simp] theorem raiseFault_faultLog (k : FaultKind) (s : State) : (raiseFault k s).faultLog = s.faultLog ++ [k] := rfl
@[simp] theorem raiseFault_hostLog (k : FaultKind) (s : State) : (raiseFault k s).hostLog = s.hostLog := rfl
@[simp] theorem raiseFault_inbox (k : FaultKind) (s : State) : (raiseFault k s).inbox = s.inbox := rfl
@[simp] theorem raiseFault_schedule (k : FaultKind) (s : State) : (raiseFault k s).schedule = s.schedule := rfl
@[simp] theorem raiseFault_beyond (k : FaultKind) (s : State) : (raiseFault k s).beyond = s.beyond := rfl
@[simp] theorem raiseFault_txErrs (k : FaultKind) (s : State) : (raiseFault k s).txErrs = s.txErrs := rfl
@[simp] theorem raiseFault_freeCtr (k : FaultKind) (s : State) : (raiseFault k s).freeCtr = s.freeCtr := rfl

@[simp] theorem accept_run (o : HostOp) (a : Rpm) (s : State) : (accept o a s).run = s.run := rfl
@[simp] theorem accept_freqCmd (o : HostOp) (a : Rpm) (s : State) : (accept o a s).freqCmd = s.freqCmd := rfl
@[simp] theorem accept_txbuf (o : HostOp) (a : Rpm) (s : State) : (accept o a s).txbuf = s.txbuf := rfl
@[simp] theorem accept_rxbuf (o : HostOp) (a : Rpm) (s : State) : (accept o a s).rxbuf = s.rxbuf := rfl
@[simp] theorem accept_freqRaw (o : HostOp) (a : Rpm) (s : State) : (accept o a s).freqRaw = s.freqRaw := rfl
@[simp] theorem accept_rpm (o : HostOp) (a : Rpm) (s : State) : (accept o a s).rpm = s.rpm := rfl
@[simp] theorem accept_fault (o : HostOp) (a : Rpm) (s : State) : (accept o a s).fault = 0 := rfl
@[simp] theorem accept_dir (o : HostOp) (a : Rpm) (s : State) : (accept o a s).dir = s.dir := rfl
@[simp] theorem accept_phase (o : HostOp) (a : Rpm) (s : State) : (accept o a s).phase = s.phase := rfl
@[simp] theorem accept_idx (o : HostOp) (a : Rpm) (s : State) : (accept o a s).idx = s.idx := rfl
@[simp] theorem accept_op (o : HostOp) (a : Rpm) (s : State) : (accept o a s).op = o := rfl
@[simp] theorem accept_arg (o : HostOp) (a : Rpm) (s : State) : (accept o a s).arg = a := rfl
@[simp] theorem accept_txerr (o : HostOp) (a : Rpm) (s : State) : (accept o a s).txerr = false := rfl
@[simp] theorem accept_rxTimer (o : HostOp) (a : Rpm) (s : State) : (accept o a s).rxTimer = s.rxTimer := rfl
@[simp] theorem accept_rxFifo (o : HostOp) (a : Rpm) (s : State) : (accept o a s).rxFifo = s.rxFifo := rfl
@[simp] theorem accept_txPort (o : HostOp) (a : Rpm) (s : State) : (accept o a s).txPort = s.txPort := rfl
@[simp] theorem accept_wire (o : HostOp) (a : Rpm) (s : State) : (accept o a s).wire = s.wire := rfl
@[simp] theorem accept_cfg (o : HostOp) (a : Rpm) (s : State) : (accept o a s).cfg = s.cfg := rfl
@[simp] theorem accept_trace (o : HostOp) (a : Rpm) (s : State) : (accept o a s).trace = s.trace := rfl
@[simp] theorem accept_faultLog (o : HostOp) (a : Rpm) (s : State) : (accept o a s).faultLog = s.faultLog := rfl
@[simp] theorem accept_hostLog (o : HostOp) (a : Rpm) (s : State) : (accept o a s).hostLog = s.hostLog := rfl
@[simp] theorem accept_inbox (o : HostOp) (a : Rpm) (s : State) : (accept o a s).inbox = s.inbox := rfl
@[simp] theorem accept_schedule (o : HostOp) (a : Rpm) (s : State) : (accept o a s).schedule = s.schedule := rfl
@[simp] theorem accept_beyond (o : HostOp) (a : Rpm) (s : State) : (accept o a s).beyond = s.beyond := rfl
@[simp] theorem accept_txErrs (o : HostOp) (a : Rpm) (s : State) : (accept o a s).txErrs = s.txErrs := rfl
@[simp] theorem accept_freeCtr (o : HostOp) (a : Rpm) (s : State) : (accept o a s).freeCtr = s.freeCtr := rfl

@[simp] theorem hold_run (p : Presented) (s : State) : (hold p s).run = s.run := rfl
@[simp] theorem hold_freqCmd (p : Presented) (s : State) : (hold p s).freqCmd = s.freqCmd := rfl
@[simp] theorem hold_txbuf (p : Presented) (s : State) : (hold p s).txbuf = s.txbuf := rfl
@[simp] theorem hold_rxbuf (p : Presented) (s : State) : (hold p s).rxbuf = s.rxbuf := rfl
@[simp] theorem hold_freqRaw (p : Presented) (s : State) : (hold p s).freqRaw = s.freqRaw := rfl
@[simp] theorem hold_rpm (p : Presented) (s : State) : (hold p s).rpm = s.rpm := rfl
@[simp] theorem hold_fault (p : Presented) (s : State) : (hold p s).fault = s.fault := rfl
@[simp] theorem hold_dir (p : Presented) (s : State) : (hold p s).dir = s.dir := rfl
@[simp] theorem hold_phase (p : Presented) (s : State) : (hold p s).phase = s.phase := rfl
@[simp] theorem hold_idx (p : Presented) (s : State) : (hold p s).idx = s.idx := rfl
@[simp] theorem hold_op (p : Presented) (s : State) : (hold p s).op = s.op := rfl
@[simp] theorem hold_arg (p : Presented) (s : State) : (hold p s).arg = s.arg := rfl
@[simp] theorem hold_txerr (p : Presented) (s : State) : (hold p s).txerr = s.txerr := rfl
@[simp] theorem hold_rxTimer (p : Presented) (s : State) : (hold p s).rxTimer = s.rxTimer := rfl
@[simp] theorem hold_rxFifo (p : Presented) (s : State) : (hold p s).rxFifo = s.rxFifo := rfl
@[simp] theorem hold_txPort (p : Presented) (s : State) : (hold p s).txPort = s.txPort := rfl
@[simp] theorem hold_wire (p : Presented) (s : State) : (hold p s).wire = s.wire := rfl
@[simp] theorem hold_cfg (p : Presented) (s : State) : (hold p s).cfg = s.cfg := rfl
@[simp] theorem hold_trace (p : Presented) (s : State) : (hold p s).trace = s.trace := rfl
@[simp] theorem hold_faultLog (p : Presented) (s : State) : (hold p s).faultLog = s.faultLog := rfl
@[simp] theorem hold_hostLog (p : Presented) (s : State) : (hold p s).hostLog = s.hostLog := rfl
@[simp] theorem hold_inbox (p : Presented) (s : State) : (hold p s).inbox = p :: s.inbox := rfl
@[simp] theorem hold_schedule (p : Presented) (s : State) : (hold p s).schedule = s.schedule := rfl
@[simp] theorem hold_beyond (p : Presented) (s : State) : (hold p s).beyond = s.beyond := rfl
@[simp] theorem hold_txErrs (p : Presented) (s : State) : (hold p s).txErrs = s.txErrs := rfl
@[simp] theorem hold_freeCtr (p : Presented) (s : State) : (hold p s).freeCtr = s.freeCtr := rfl

@[simp] theorem buildPowerFrame_run (d : Direction) (s : State) : (buildPowerFrame d s).run = s.run := rfl
@[simp] theorem buildPowerFrame_freqCmd (d : Direction) (s : State) : (buildPowerFrame d s).freqCmd = s.freqCmd := rfl
@[simp] theorem buildPowerFrame_txbuf (d : Direction) (s : State) : (buildPowerFrame d s).txbuf = powerFrame d := rfl
@[simp] theorem buildPowerFrame_rxbuf (d : Direction) (s : State) : (buildPowerFrame d s).rxbuf = s.rxbuf := rfl
@[simp] theorem buildPowerFrame_freqRaw (d : Direction) (s : State) : (buildPowerFrame d s).freqRaw = s.freqRaw := rfl
@[simp] theorem buildPowerFrame_rpm (d : Direction) (s : State) : (buildPowerFrame d s).rpm = s.rpm := rfl
@[simp] theorem buildPowerFrame_fault (d : Direction) (s : State) : (buildPowerFrame d s).fault = s.fault := rfl
@[simp] theorem buildPowerFrame_dir (d : Direction) (s : State) : (buildPowerFrame d s).dir = s.dir := rfl
@[simp] theorem buildPowerFrame_phase (d : Direction) (s : State) : (buildPowerFrame d s).phase = s.phase := rfl
@[simp] theorem buildPowerFrame_idx (d : Direction) (s : State) : (buildPowerFrame d s).idx = s.idx := rfl
@[simp] theorem buildPowerFrame_op (d : Direction) (s : State) : (buildPowerFrame d s).op = s.op := rfl
@[simp] theorem buildPowerFrame_arg (d : Direction) (s : State) : (buildPowerFrame d s).arg = s.arg := rfl
@[simp] theorem buildPowerFrame_txerr (d : Direction) (s : State) : (buildPowerFrame d s).txerr = s.txerr := rfl
@[simp] theorem buildPowerFrame_rxTimer (d : Direction) (s : State) : (buildPowerFrame d s).rxTimer = s.rxTimer := rfl
@[simp] theorem buildPowerFrame_rxFifo (d : Direction) (s : State) : (buildPowerFrame d s).rxFifo = s.rxFifo := rfl
@[simp] theorem buildPowerFrame_txPort (d : Direction) (s : State) : (buildPowerFrame d s).txPort = s.txPort := rfl
@[simp] theorem buildPowerFrame_wire (d : Direction) (s : State) : (buildPowerFrame d s).wire = s.wire := rfl
@[simp] theorem buildPowerFrame_cfg (d : Direction) (s : State) : (buildPowerFrame d s).cfg = s.cfg := rfl
@[simp] theorem buildPowerFrame_trace (d : Direction) (s : State) : (buildPowerFrame d s).trace = s.trace := rfl
@[simp] theorem buildPowerFrame_faultLog (d : Direction) (s : State) : (buildPowerFrame d s).faultLog = s.faultLog := rfl
@[simp] theorem buildPowerFrame_hostLog (d : Direction) (s : State) : (buildPowerFrame d s).hostLog = s.hostLog := rfl
@[simp] theorem buildPowerFrame_inbox (d : Direction) (s : State) : (buildPowerFrame d s).inbox = s.inbox := rfl
@[simp] theorem buildPowerFrame_schedule (d : Direction) (s : State) : (buildPowerFrame d s).schedule = s.schedule := rfl
@[simp] theorem buildPowerFrame_beyond (d : Direction) (s : State) : (buildPowerFrame d s).beyond = s.beyond := rfl
@[simp] theorem buildPowerFrame_txErrs (d : Direction) (s : State) : (buildPowerFrame d s).txErrs = s.txErrs := rfl
@[simp] theorem buildPowerFrame_freeCtr (d : Direction) (s : State) : (buildPowerFrame d s).freeCtr = s.freeCtr := rfl

@[simp] theorem buildFrequencyFrame_run (f : Half) (s : State) : (buildFrequencyFrame f s).run = s.run := rfl
@[simp] theorem buildFrequencyFrame_freqCmd (f : Half) (s : State) : (buildFrequencyFrame f s).freqCmd = f := rfl
@[simp] theorem buildFrequencyFrame_txbuf (f : Half) (s : State) : (buildFrequencyFrame f s).txbuf = speedFrame s.cfg.speedD3 f := rfl
@[simp] theorem buildFrequencyFrame_rxbuf (f : Half) (s : State) : (buildFrequencyFrame f s).rxbuf = s.rxbuf := rfl
@[simp] theorem buildFrequencyFrame_freqRaw (f : Half) (s : State) : (buildFrequencyFrame f s).freqRaw = s.freqRaw := rfl
@[simp] theorem buildFrequencyFrame_rpm (f : Half) (s : State) : (buildFrequencyFrame f s).rpm = s.rpm := rfl
@[simp] theorem buildFrequencyFrame_fault (f : Half) (s : State) : (buildFrequencyFrame f s).fault = s.fault := rfl
@[simp] theorem buildFrequencyFrame_dir (f : Half) (s : State) : (buildFrequencyFrame f s).dir = s.dir := rfl
@[simp] theorem buildFrequencyFrame_phase (f : Half) (s : State) : (buildFrequencyFrame f s).phase = s.phase := rfl
@[simp] theorem buildFrequencyFrame_idx (f : Half) (s : State) : (buildFrequencyFrame f s).idx = s.idx := rfl
@[simp] theorem buildFrequencyFrame_op (f : Half) (s : State) : (buildFrequencyFrame f s).op = s.op := rfl
@[simp] theorem buildFrequencyFrame_arg (f : Half) (s : State) : (buildFrequencyFrame f s).arg = s.arg := rfl
@[simp] theorem buildFrequencyFrame_txerr (f : Half) (s : State) : (buildFrequencyFrame f s).txerr = s.txerr := rfl
@[simp] theorem buildFrequencyFrame_rxTimer (f : Half) (s : State) : (buildFrequencyFrame f s).rxTimer = s.rxTimer := rfl
@[simp] theorem buildFrequencyFrame_rxFifo (f : Half) (s : State) : (buildFrequencyFrame f s).rxFifo = s.rxFifo := rfl
@[simp] theorem buildFrequencyFrame_txPort (f : Half) (s : State) : (buildFrequencyFrame f s).txPort = s.txPort := rfl
@[simp] theorem buildFrequencyFrame_wire (f : Half) (s : State) : (buildFrequencyFrame f s).wire = s.wire := rfl
@[simp] theorem buildFrequencyFrame_cfg (f : Half) (s : State) : (buildFrequencyFrame f s).cfg = s.cfg := rfl
@[simp] theorem buildFrequencyFrame_trace (f : Half) (s : State) : (buildFrequencyFrame f s).trace = s.trace := rfl
@[simp] theorem buildFrequencyFrame_faultLog (f : Half) (s : State) : (buildFrequencyFrame f s).faultLog = s.faultLog := rfl
@[simp] theorem buildFrequencyFrame_hostLog (f : Half) (s : State) : (buildFrequencyFrame f s).hostLog = s.hostLog := rfl
@[simp] theorem buildFrequencyFrame_inbox (f : Half) (s : State) : (buildFrequencyFrame f s).inbox = s.inbox := rfl
@[simp] theorem buildFrequencyFrame_schedule (f : Half) (s : State) : (buildFrequencyFrame f s).schedule = s.schedule := rfl
@[simp] theorem buildFrequencyFrame_beyond (f : Half) (s : State) : (buildFrequencyFrame f s).beyond = s.beyond := rfl
@[simp] theorem buildFrequencyFrame_txErrs (f : Half) (s : State) : (buildFrequencyFrame f s).txErrs = s.txErrs := rfl
@[simp] theorem buildFrequencyFrame_freeCtr (f : Half) (s : State) : (buildFrequencyFrame f s).freeCtr = s.freeCtr := rfl

@[simp] theorem buildSpeedFrame_run (r : Rpm) (s : State) : (buildSpeedFrame r s).run = s.run := rfl
@[simp] theorem buildSpeedFrame_freqCmd (r : Rpm) (s : State) : (buildSpeedFrame r s).freqCmd = freq16 r := rfl
@[simp] theorem buildSpeedFrame_txbuf (r : Rpm) (s : State) : (buildSpeedFrame r s).txbuf = speedFrame s.cfg.speedD3 (freq16 r) := rfl
@[simp] theorem buildSpeedFrame_rxbuf (r : Rpm) (s : State) : (buildSpeedFrame r s).rxbuf = s.rxbuf := rfl
@[simp] theorem buildSpeedFrame_freqRaw (r : Rpm) (s : State) : (buildSpeedFrame r s).freqRaw = s.freqRaw := rfl
@[simp] theorem buildSpeedFrame_rpm (r : Rpm) (s : State) : (buildSpeedFrame r s).rpm = s.rpm := rfl
@[simp] theorem buildSpeedFrame_fault (r : Rpm) (s : State) : (buildSpeedFrame r s).fault = s.fault := rfl
@[simp] theorem buildSpeedFrame_dir (r : Rpm) (s : State) : (buildSpeedFrame r s).dir = s.dir := rfl
@[simp] theorem buildSpeedFrame_phase (r : Rpm) (s : State) : (buildSpeedFrame r s).phase = s.phase := rfl
@[simp] theorem buildSpeedFrame_idx (r : Rpm) (s : State) : (buildSpeedFrame r s).idx = s.idx := rfl
@[simp] theorem buildSpeedFrame_op (r : Rpm) (s : State) : (buildSpeedFrame r s).op = s.op := rfl
@[simp] theorem buildSpeedFrame_arg (r : Rpm) (s : State) : (buildSpeedFrame r s).arg = s.arg := rfl
@[simp] theorem buildSpeedFrame_txerr (r : Rpm) (s : State) : (buildSpeedFrame r s).txerr = s.txerr := rfl
@[simp] theorem buildSpeedFrame_rxTimer (r : Rpm) (s : State) : (buildSpeedFrame r s).rxTimer = s.rxTimer := rfl
@[simp] theorem buildSpeedFrame_rxFifo (r : Rpm) (s : State) : (buildSpeedFrame r s).rxFifo = s.rxFifo := rfl
@[simp] theorem buildSpeedFrame_txPort (r : Rpm) (s : State) : (buildSpeedFrame r s).txPort = s.txPort := rfl
@[simp] theorem buildSpeedFrame_wire (r : Rpm) (s : State) : (buildSpeedFrame r s).wire = s.wire := rfl
@[simp] theorem buildSpeedFrame_cfg (r : Rpm) (s : State) : (buildSpeedFrame r s).cfg = s.cfg := rfl
@[simp] theorem buildSpeedFrame_trace (r : Rpm) (s : State) : (buildSpeedFrame r s).trace = s.trace := rfl
@[simp] theorem buildSpeedFrame_faultLog (r : Rpm) (s : State) : (buildSpeedFrame r s).faultLog = s.faultLog := rfl
@[simp] theorem buildSpeedFrame_hostLog (r : Rpm) (s : State) : (buildSpeedFrame r s).hostLog = s.hostLog := rfl
@[simp] theorem buildSpeedFrame_inbox (r : Rpm) (s : State) : (buildSpeedFrame r s).inbox = s.inbox := rfl
@[simp] theorem buildSpeedFrame_schedule (r : Rpm) (s : State) : (buildSpeedFrame r s).schedule = s.schedule := rfl
@[simp] theorem buildSpeedFrame_beyond (r : Rpm) (s : State) : (buildSpeedFrame r s).beyond = s.beyond := rfl
@[simp] theorem buildSpeedFrame_txErrs (r : Rpm) (s : State) : (buildSpeedFrame r s).txErrs = s.txErrs := rfl
@[simp] theorem buildSpeedFrame_freeCtr (r : Rpm) (s : State) : (buildSpeedFrame r s).freeCtr = s.freeCtr := rfl

@[simp] theorem resetBlock_run (s : State) : (resetBlock s).run = false := rfl
@[simp] theorem resetBlock_freqCmd (s : State) : (resetBlock s).freqCmd = 0 := rfl
@[simp] theorem resetBlock_txbuf (s : State) : (resetBlock s).txbuf = Vector.replicate 9 0 := rfl
@[simp] theorem resetBlock_rxbuf (s : State) : (resetBlock s).rxbuf = Vector.replicate 13 0 := rfl
@[simp] theorem resetBlock_freqRaw (s : State) : (resetBlock s).freqRaw = 0 := rfl
@[simp] theorem resetBlock_rpm (s : State) : (resetBlock s).rpm = 0 := rfl
@[simp] theorem resetBlock_fault (s : State) : (resetBlock s).fault = 0 := rfl
@[simp] theorem resetBlock_dir (s : State) : (resetBlock s).dir = false := rfl
@[simp] theorem resetBlock_phase (s : State) : (resetBlock s).phase = .idle := rfl
@[simp] theorem resetBlock_idx (s : State) : (resetBlock s).idx = 0 := rfl
@[simp] theorem resetBlock_op (s : State) : (resetBlock s).op = .turnOn := rfl
@[simp] theorem resetBlock_arg (s : State) : (resetBlock s).arg = 0 := rfl
@[simp] theorem resetBlock_txerr (s : State) : (resetBlock s).txerr = false := rfl
@[simp] theorem resetBlock_rxTimer (s : State) : (resetBlock s).rxTimer = 0 := rfl
@[simp] theorem resetBlock_rxFifo (s : State) : (resetBlock s).rxFifo = s.rxFifo := rfl
@[simp] theorem resetBlock_txPort (s : State) : (resetBlock s).txPort = s.txPort := rfl
@[simp] theorem resetBlock_wire (s : State) : (resetBlock s).wire = s.wire := rfl
@[simp] theorem resetBlock_cfg (s : State) : (resetBlock s).cfg = s.cfg := rfl
@[simp] theorem resetBlock_trace (s : State) : (resetBlock s).trace = s.trace := rfl
@[simp] theorem resetBlock_faultLog (s : State) : (resetBlock s).faultLog = s.faultLog := rfl
@[simp] theorem resetBlock_hostLog (s : State) : (resetBlock s).hostLog = s.hostLog := rfl
@[simp] theorem resetBlock_inbox (s : State) : (resetBlock s).inbox = s.inbox := rfl
@[simp] theorem resetBlock_schedule (s : State) : (resetBlock s).schedule = s.schedule := rfl
@[simp] theorem resetBlock_beyond (s : State) : (resetBlock s).beyond = s.beyond := rfl
@[simp] theorem resetBlock_txErrs (s : State) : (resetBlock s).txErrs = s.txErrs := rfl
@[simp] theorem resetBlock_freeCtr (s : State) : (resetBlock s).freeCtr = s.freeCtr := rfl

/-! A write changes the trace, the transport, TXERR and the oracle only. -/

@[simp] theorem oracleUsed_run (s : State) : (oracleUsed s).run = s.run := by
  unfold oracleUsed; split <;> rfl
@[simp] theorem oracleUsed_freqCmd (s : State) : (oracleUsed s).freqCmd = s.freqCmd := by
  unfold oracleUsed; split <;> rfl
@[simp] theorem oracleUsed_txbuf (s : State) : (oracleUsed s).txbuf = s.txbuf := by
  unfold oracleUsed; split <;> rfl
@[simp] theorem oracleUsed_rxbuf (s : State) : (oracleUsed s).rxbuf = s.rxbuf := by
  unfold oracleUsed; split <;> rfl
@[simp] theorem oracleUsed_freqRaw (s : State) : (oracleUsed s).freqRaw = s.freqRaw := by
  unfold oracleUsed; split <;> rfl
@[simp] theorem oracleUsed_rpm (s : State) : (oracleUsed s).rpm = s.rpm := by
  unfold oracleUsed; split <;> rfl
@[simp] theorem oracleUsed_fault (s : State) : (oracleUsed s).fault = s.fault := by
  unfold oracleUsed; split <;> rfl
@[simp] theorem oracleUsed_dir (s : State) : (oracleUsed s).dir = s.dir := by
  unfold oracleUsed; split <;> rfl
@[simp] theorem oracleUsed_phase (s : State) : (oracleUsed s).phase = s.phase := by
  unfold oracleUsed; split <;> rfl
@[simp] theorem oracleUsed_idx (s : State) : (oracleUsed s).idx = s.idx := by
  unfold oracleUsed; split <;> rfl
@[simp] theorem oracleUsed_op (s : State) : (oracleUsed s).op = s.op := by
  unfold oracleUsed; split <;> rfl
@[simp] theorem oracleUsed_arg (s : State) : (oracleUsed s).arg = s.arg := by
  unfold oracleUsed; split <;> rfl
@[simp] theorem oracleUsed_rxTimer (s : State) : (oracleUsed s).rxTimer = s.rxTimer := by
  unfold oracleUsed; split <;> rfl
@[simp] theorem oracleUsed_rxFifo (s : State) : (oracleUsed s).rxFifo = s.rxFifo := by
  unfold oracleUsed; split <;> rfl
@[simp] theorem oracleUsed_txPort (s : State) : (oracleUsed s).txPort = s.txPort := by
  unfold oracleUsed; split <;> rfl
@[simp] theorem oracleUsed_wire (s : State) : (oracleUsed s).wire = s.wire := by
  unfold oracleUsed; split <;> rfl
@[simp] theorem oracleUsed_cfg (s : State) : (oracleUsed s).cfg = s.cfg := by
  unfold oracleUsed; split <;> rfl
@[simp] theorem oracleUsed_trace (s : State) : (oracleUsed s).trace = s.trace := by
  unfold oracleUsed; split <;> rfl
@[simp] theorem oracleUsed_faultLog (s : State) : (oracleUsed s).faultLog = s.faultLog := by
  unfold oracleUsed; split <;> rfl
@[simp] theorem oracleUsed_hostLog (s : State) : (oracleUsed s).hostLog = s.hostLog := by
  unfold oracleUsed; split <;> rfl
@[simp] theorem oracleUsed_inbox (s : State) : (oracleUsed s).inbox = s.inbox := by
  unfold oracleUsed; split <;> rfl
@[simp] theorem oracleUsed_schedule (s : State) : (oracleUsed s).schedule = s.schedule := by
  unfold oracleUsed; split <;> rfl
@[simp] theorem oracleUsed_beyond (s : State) : (oracleUsed s).beyond = s.beyond := by
  unfold oracleUsed; split <;> rfl
@[simp] theorem oracleUsed_txerr (s : State) : (oracleUsed s).txerr = s.txerr := by
  unfold oracleUsed; split <;> rfl

@[simp] theorem latchWriteError_run (s : State) : (latchWriteError s).run = s.run := by
  unfold latchWriteError; split <;> simp
@[simp] theorem latchWriteError_freqCmd (s : State) : (latchWriteError s).freqCmd = s.freqCmd := by
  unfold latchWriteError; split <;> simp
@[simp] theorem latchWriteError_txbuf (s : State) : (latchWriteError s).txbuf = s.txbuf := by
  unfold latchWriteError; split <;> simp
@[simp] theorem latchWriteError_rxbuf (s : State) : (latchWriteError s).rxbuf = s.rxbuf := by
  unfold latchWriteError; split <;> simp
@[simp] theorem latchWriteError_freqRaw (s : State) : (latchWriteError s).freqRaw = s.freqRaw := by
  unfold latchWriteError; split <;> simp
@[simp] theorem latchWriteError_rpm (s : State) : (latchWriteError s).rpm = s.rpm := by
  unfold latchWriteError; split <;> simp
@[simp] theorem latchWriteError_fault (s : State) : (latchWriteError s).fault = s.fault := by
  unfold latchWriteError; split <;> simp
@[simp] theorem latchWriteError_dir (s : State) : (latchWriteError s).dir = s.dir := by
  unfold latchWriteError; split <;> simp
@[simp] theorem latchWriteError_phase (s : State) : (latchWriteError s).phase = s.phase := by
  unfold latchWriteError; split <;> simp
@[simp] theorem latchWriteError_idx (s : State) : (latchWriteError s).idx = s.idx := by
  unfold latchWriteError; split <;> simp
@[simp] theorem latchWriteError_op (s : State) : (latchWriteError s).op = s.op := by
  unfold latchWriteError; split <;> simp
@[simp] theorem latchWriteError_arg (s : State) : (latchWriteError s).arg = s.arg := by
  unfold latchWriteError; split <;> simp
@[simp] theorem latchWriteError_rxTimer (s : State) : (latchWriteError s).rxTimer = s.rxTimer := by
  unfold latchWriteError; split <;> simp
@[simp] theorem latchWriteError_rxFifo (s : State) : (latchWriteError s).rxFifo = s.rxFifo := by
  unfold latchWriteError; split <;> simp
@[simp] theorem latchWriteError_txPort (s : State) : (latchWriteError s).txPort = s.txPort := by
  unfold latchWriteError; split <;> simp
@[simp] theorem latchWriteError_wire (s : State) : (latchWriteError s).wire = s.wire := by
  unfold latchWriteError; split <;> simp
@[simp] theorem latchWriteError_cfg (s : State) : (latchWriteError s).cfg = s.cfg := by
  unfold latchWriteError; split <;> simp
@[simp] theorem latchWriteError_trace (s : State) : (latchWriteError s).trace = s.trace := by
  unfold latchWriteError; split <;> simp
@[simp] theorem latchWriteError_faultLog (s : State) : (latchWriteError s).faultLog = s.faultLog := by
  unfold latchWriteError; split <;> simp
@[simp] theorem latchWriteError_hostLog (s : State) : (latchWriteError s).hostLog = s.hostLog := by
  unfold latchWriteError; split <;> simp
@[simp] theorem latchWriteError_inbox (s : State) : (latchWriteError s).inbox = s.inbox := by
  unfold latchWriteError; split <;> simp
@[simp] theorem latchWriteError_schedule (s : State) : (latchWriteError s).schedule = s.schedule := by
  unfold latchWriteError; split <;> simp
@[simp] theorem latchWriteError_beyond (s : State) : (latchWriteError s).beyond = s.beyond := by
  unfold latchWriteError; split <;> simp
@[simp] theorem latchWriteError_txerr (s : State) :
    (latchWriteError s).txerr = (s.txerr || (s.cfg.hasTxErr && writeError s)) := by
  unfold latchWriteError latchTxErr; split <;> simp_all

@[simp] theorem txWrite_run (b : Byte) (s : State) : (txWrite b s).run = s.run := by simp [txWrite]
@[simp] theorem txWrite_freqCmd (b : Byte) (s : State) : (txWrite b s).freqCmd = s.freqCmd := by simp [txWrite]
@[simp] theorem txWrite_txbuf (b : Byte) (s : State) : (txWrite b s).txbuf = s.txbuf := by simp [txWrite]
@[simp] theorem txWrite_rxbuf (b : Byte) (s : State) : (txWrite b s).rxbuf = s.rxbuf := by simp [txWrite]
@[simp] theorem txWrite_freqRaw (b : Byte) (s : State) : (txWrite b s).freqRaw = s.freqRaw := by simp [txWrite]
@[simp] theorem txWrite_rpm (b : Byte) (s : State) : (txWrite b s).rpm = s.rpm := by simp [txWrite]
@[simp] theorem txWrite_fault (b : Byte) (s : State) : (txWrite b s).fault = s.fault := by simp [txWrite]
@[simp] theorem txWrite_dir (b : Byte) (s : State) : (txWrite b s).dir = s.dir := by simp [txWrite]
@[simp] theorem txWrite_phase (b : Byte) (s : State) : (txWrite b s).phase = s.phase := by simp [txWrite]
@[simp] theorem txWrite_idx (b : Byte) (s : State) : (txWrite b s).idx = s.idx := by simp [txWrite]
@[simp] theorem txWrite_op (b : Byte) (s : State) : (txWrite b s).op = s.op := by simp [txWrite]
@[simp] theorem txWrite_arg (b : Byte) (s : State) : (txWrite b s).arg = s.arg := by simp [txWrite]
@[simp] theorem txWrite_rxTimer (b : Byte) (s : State) : (txWrite b s).rxTimer = s.rxTimer := by simp [txWrite]
@[simp] theorem txWrite_rxFifo (b : Byte) (s : State) : (txWrite b s).rxFifo = s.rxFifo := by simp [txWrite]
@[simp] theorem txWrite_txPort (b : Byte) (s : State) : (txWrite b s).txPort = s.txPort ++ [b] := by simp [txWrite]
@[simp] theorem txWrite_wire (b : Byte) (s : State) : (txWrite b s).wire = s.wire := by simp [txWrite]
@[simp] theorem txWrite_cfg (b : Byte) (s : State) : (txWrite b s).cfg = s.cfg := by simp [txWrite]
@[simp] theorem txWrite_trace (b : Byte) (s : State) : (txWrite b s).trace = s.trace ++ [.txWrite b] := by simp [txWrite]
@[simp] theorem txWrite_faultLog (b : Byte) (s : State) : (txWrite b s).faultLog = s.faultLog := by simp [txWrite]
@[simp] theorem txWrite_hostLog (b : Byte) (s : State) : (txWrite b s).hostLog = s.hostLog := by simp [txWrite]
@[simp] theorem txWrite_inbox (b : Byte) (s : State) : (txWrite b s).inbox = s.inbox := by simp [txWrite]
@[simp] theorem txWrite_schedule (b : Byte) (s : State) : (txWrite b s).schedule = s.schedule := by simp [txWrite]
@[simp] theorem txWrite_beyond (b : Byte) (s : State) : (txWrite b s).beyond = s.beyond := by simp [txWrite]
/-! A word that no row matches changes the receive FIFO only. -/

@[simp] theorem unmatched_run (p : Presented) (s : State) : (unmatched p s).run = s.run := by
  unfold unmatched; split <;> rfl
@[simp] theorem unmatched_freqCmd (p : Presented) (s : State) : (unmatched p s).freqCmd = s.freqCmd := by
  unfold unmatched; split <;> rfl
@[simp] theorem unmatched_txbuf (p : Presented) (s : State) : (unmatched p s).txbuf = s.txbuf := by
  unfold unmatched; split <;> rfl
@[simp] theorem unmatched_rxbuf (p : Presented) (s : State) : (unmatched p s).rxbuf = s.rxbuf := by
  unfold unmatched; split <;> rfl
@[simp] theorem unmatched_freqRaw (p : Presented) (s : State) : (unmatched p s).freqRaw = s.freqRaw := by
  unfold unmatched; split <;> rfl
@[simp] theorem unmatched_rpm (p : Presented) (s : State) : (unmatched p s).rpm = s.rpm := by
  unfold unmatched; split <;> rfl
@[simp] theorem unmatched_fault (p : Presented) (s : State) : (unmatched p s).fault = s.fault := by
  unfold unmatched; split <;> rfl
@[simp] theorem unmatched_dir (p : Presented) (s : State) : (unmatched p s).dir = s.dir := by
  unfold unmatched; split <;> rfl
@[simp] theorem unmatched_phase (p : Presented) (s : State) : (unmatched p s).phase = s.phase := by
  unfold unmatched; split <;> rfl
@[simp] theorem unmatched_idx (p : Presented) (s : State) : (unmatched p s).idx = s.idx := by
  unfold unmatched; split <;> rfl
@[simp] theorem unmatched_op (p : Presented) (s : State) : (unmatched p s).op = s.op := by
  unfold unmatched; split <;> rfl
@[simp] theorem unmatched_arg (p : Presented) (s : State) : (unmatched p s).arg = s.arg := by
  unfold unmatched; split <;> rfl
@[simp] theorem unmatched_txerr (p : Presented) (s : State) : (unmatched p s).txerr = s.txerr := by
  unfold unmatched; split <;> rfl
@[simp] theorem unmatched_rxTimer (p : Presented) (s : State) : (unmatched p s).rxTimer = s.rxTimer := by
  unfold unmatched; split <;> rfl
@[simp] theorem unmatched_txPort (p : Presented) (s : State) : (unmatched p s).txPort = s.txPort := by
  unfold unmatched; split <;> rfl
@[simp] theorem unmatched_wire (p : Presented) (s : State) : (unmatched p s).wire = s.wire := by
  unfold unmatched; split <;> rfl
@[simp] theorem unmatched_cfg (p : Presented) (s : State) : (unmatched p s).cfg = s.cfg := by
  unfold unmatched; split <;> rfl
@[simp] theorem unmatched_trace (p : Presented) (s : State) : (unmatched p s).trace = s.trace := by
  unfold unmatched; split <;> rfl
@[simp] theorem unmatched_faultLog (p : Presented) (s : State) : (unmatched p s).faultLog = s.faultLog := by
  unfold unmatched; split <;> rfl
@[simp] theorem unmatched_hostLog (p : Presented) (s : State) : (unmatched p s).hostLog = s.hostLog := by
  unfold unmatched; split <;> rfl
@[simp] theorem unmatched_inbox (p : Presented) (s : State) : (unmatched p s).inbox = s.inbox := by
  unfold unmatched; split <;> rfl
@[simp] theorem unmatched_schedule (p : Presented) (s : State) : (unmatched p s).schedule = s.schedule := by
  unfold unmatched; split <;> rfl
@[simp] theorem unmatched_beyond (p : Presented) (s : State) : (unmatched p s).beyond = s.beyond := by
  unfold unmatched; split <;> rfl
@[simp] theorem unmatched_txErrs (p : Presented) (s : State) : (unmatched p s).txErrs = s.txErrs := by
  unfold unmatched; split <;> rfl
@[simp] theorem unmatched_freeCtr (p : Presented) (s : State) : (unmatched p s).freeCtr = s.freeCtr := by
  unfold unmatched; split <;> rfl

@[simp] theorem writeError_handOver (b : Byte) (s : State) : writeError (handOver b s) = writeError s := rfl

@[simp] theorem txWrite_txerr (b : Byte) (s : State) :
    (txWrite b s).txerr = (s.txerr || (s.cfg.hasTxErr && writeError s)) := by simp [txWrite]

/-! Using up a move changes the schedule and the counter only. -/

@[simp] theorem moveUsed_run (s : State) : (moveUsed s).run = s.run := by
  unfold moveUsed; split <;> (try split) <;> rfl
@[simp] theorem moveUsed_freqCmd (s : State) : (moveUsed s).freqCmd = s.freqCmd := by
  unfold moveUsed; split <;> (try split) <;> rfl
@[simp] theorem moveUsed_txbuf (s : State) : (moveUsed s).txbuf = s.txbuf := by
  unfold moveUsed; split <;> (try split) <;> rfl
@[simp] theorem moveUsed_rxbuf (s : State) : (moveUsed s).rxbuf = s.rxbuf := by
  unfold moveUsed; split <;> (try split) <;> rfl
@[simp] theorem moveUsed_freqRaw (s : State) : (moveUsed s).freqRaw = s.freqRaw := by
  unfold moveUsed; split <;> (try split) <;> rfl
@[simp] theorem moveUsed_rpm (s : State) : (moveUsed s).rpm = s.rpm := by
  unfold moveUsed; split <;> (try split) <;> rfl
@[simp] theorem moveUsed_fault (s : State) : (moveUsed s).fault = s.fault := by
  unfold moveUsed; split <;> (try split) <;> rfl
@[simp] theorem moveUsed_dir (s : State) : (moveUsed s).dir = s.dir := by
  unfold moveUsed; split <;> (try split) <;> rfl
@[simp] theorem moveUsed_phase (s : State) : (moveUsed s).phase = s.phase := by
  unfold moveUsed; split <;> (try split) <;> rfl
@[simp] theorem moveUsed_idx (s : State) : (moveUsed s).idx = s.idx := by
  unfold moveUsed; split <;> (try split) <;> rfl
@[simp] theorem moveUsed_op (s : State) : (moveUsed s).op = s.op := by
  unfold moveUsed; split <;> (try split) <;> rfl
@[simp] theorem moveUsed_arg (s : State) : (moveUsed s).arg = s.arg := by
  unfold moveUsed; split <;> (try split) <;> rfl
@[simp] theorem moveUsed_txerr (s : State) : (moveUsed s).txerr = s.txerr := by
  unfold moveUsed; split <;> (try split) <;> rfl
@[simp] theorem moveUsed_rxTimer (s : State) : (moveUsed s).rxTimer = s.rxTimer := by
  unfold moveUsed; split <;> (try split) <;> rfl
@[simp] theorem moveUsed_rxFifo (s : State) : (moveUsed s).rxFifo = s.rxFifo := by
  unfold moveUsed; split <;> (try split) <;> rfl
@[simp] theorem moveUsed_txPort (s : State) : (moveUsed s).txPort = s.txPort := by
  unfold moveUsed; split <;> (try split) <;> rfl
@[simp] theorem moveUsed_wire (s : State) : (moveUsed s).wire = s.wire := by
  unfold moveUsed; split <;> (try split) <;> rfl
@[simp] theorem moveUsed_cfg (s : State) : (moveUsed s).cfg = s.cfg := by
  unfold moveUsed; split <;> (try split) <;> rfl
@[simp] theorem moveUsed_trace (s : State) : (moveUsed s).trace = s.trace := by
  unfold moveUsed; split <;> (try split) <;> rfl
@[simp] theorem moveUsed_faultLog (s : State) : (moveUsed s).faultLog = s.faultLog := by
  unfold moveUsed; split <;> (try split) <;> rfl
@[simp] theorem moveUsed_hostLog (s : State) : (moveUsed s).hostLog = s.hostLog := by
  unfold moveUsed; split <;> (try split) <;> rfl
@[simp] theorem moveUsed_inbox (s : State) : (moveUsed s).inbox = s.inbox := by
  unfold moveUsed; split <;> (try split) <;> rfl
@[simp] theorem moveUsed_beyond (s : State) : (moveUsed s).beyond = s.beyond := by
  unfold moveUsed; split <;> (try split) <;> rfl
@[simp] theorem moveUsed_txErrs (s : State) : (moveUsed s).txErrs = s.txErrs := by
  unfold moveUsed; split <;> (try split) <;> rfl

end Sys2Proof.Machine
end

