-- ==== Sys2Proof/Laws/Ops.lean ====
section
/-! SUPPORT. What each shared operation can do, said once: exec's meanings, the phase steps, the turn and the step. -/

namespace Sys2Proof.Machine

/-! ### Words taken by an idle block -/

theorem whenIdle_idle (i : Instr) (s e : State) (h : s.phase = .idle) : whenIdle i s e = .next e := if_pos h

theorem whenIdle_busy (i : Instr) (s e : State) (h : s.phase ≠ .idle) : whenIdle i s e = .next (hold (encode i) s) :=
  if_neg h

theorem busy_eq_false (s : State) : s.busy = false ↔ s.phase = .idle := by
  cases h : s.phase <;> simp [State.busy, h]

theorem busy_eq_true (s : State) : s.busy = true ↔ s.phase ≠ .idle := by
  cases h : s.phase <;> simp [State.busy, h]

/-- What an idle block does with each row. -/
def idleEffect (i : Instr) (s : State) : State :=
  match i with
  | .turnOn arg => goTo .txAssert (buildPowerFrame .clockwise (accept .turnOn arg s))
  | .turnOff arg => goTo .txAssert (buildPowerFrame .off (accept .turnOff arg s))
  | .setSpeed rpm => goTo .txAssert (buildSpeedFrame rpm (accept .setSpeed rpm s))
  | .reportSpeed arg => goTo .rxFlush (accept .reportSpeed arg s)
  | .framePowerOn => buildPowerFrame .clockwise s
  | .framePowerOff => buildPowerFrame .off s
  | .frameSpeed d1 d2 _ _ => buildFrequencyFrame (joinBytes d1 d2) s
  | .frameStatus d1 d2 d3 d4 d5 d6 x a =>
    arrive (encode (.frameStatus d1 d2 d3 d4 d5 d6 x a)).bytes s

/-- exec always answers a next state: the row's effect, or, for a row an idle block takes, the word held. -/
theorem exec_eq (i : Instr) (s : State) :
    exec i s = .next (if s.phase = .idle ∨ i.format = .statFrame then idleEffect i s else hold (encode i) s) := by
  by_cases h : s.phase = .idle <;> cases i <;>
    simp [exec, execTurnOn, execTurnOff, execSetSpeed, execReportSpeed, execFramePowerOn, execFramePowerOff,
      execFrameSpeed, execFrameStatus, whenIdle, idleEffect, Instr.format, h]

/-- The three things a run of exec can be. -/
theorem exec_cases {i : Instr} {s t : State} (h : exec i s = .next t) :
    (s.phase = .idle ∧ t = idleEffect i s) ∨
    (i.format = .statFrame ∧ t = idleEffect i s) ∨
    (s.phase ≠ .idle ∧ i.format ≠ .statFrame ∧ t = hold (encode i) s) := by
  rw [exec_eq] at h
  injection h with h
  by_cases hp : s.phase = .idle <;> by_cases hf : i.format = .statFrame <;> simp_all

/-! ### The phases -/

theorem nextTxByte_eq (s : State) :
    nextTxByte s = { s with idx := s.idx + 1, phase := if s.idx + 1 = 9 then .txDrain else s.phase } := by
  unfold nextTxByte goTo; split <;> rfl

theorem nextRxByte_eq (s : State) :
    nextRxByte s = { s with idx := s.idx + 1, phase := if s.idx + 1 = 13 then .rxDecode else s.phase } := by
  unfold nextRxByte goTo; split <;> rfl

/-- The ninth byte of TXBUF is the one whose successor index is 9. -/
theorem idx_succ_eq_nine (i : BitVec 4) : i + 1 = 9 ↔ i.toNat + 1 = 9 := by revert i; decide

/-- The thirteenth byte of RXBUF is the one whose successor index is 13. -/
theorem idx_succ_eq_thirteen (i : BitVec 4) : i + 1 = 13 ↔ i.toNat + 1 = 13 := by revert i; decide

/-- IDX does not wrap inside a buffer (10_state.md R34). -/
theorem idx_succ_toNat (i : BitVec 4) (h : i.toNat < 15) : (i + 1).toNat = i.toNat + 1 := by
  have one : BitVec.toNat (1 : BitVec 4) = 1 := rfl
  rw [BitVec.toNat_add, one]; omega

/-- The oracle's answer to the next write. -/
theorem writeAnswer_zero (s : State) : writeAnswer s 0 = writeError s := by
  unfold writeAnswer writeError; cases s.txErrs <;> simp

/-- After one answer the next one is due. -/
theorem writeAnswer_oracleUsed (s : State) (k : Nat) : writeAnswer (oracleUsed s) k = writeAnswer s (k + 1) := by
  unfold writeAnswer oracleUsed
  cases h : s.txErrs with
  | nil => simp; congr 1; omega
  | cons a l => simp

/-- The completion of a `send`: TransportError, or the state change of OP. -/
theorem completeSend_cases (s : State) :
    (s.txerr = true ∧ completeSend s = raiseFault .transportError s) ∨
    (s.txerr = false ∧ s.op = .turnOn ∧ completeSend s = { s with run := true, phase := .idle }) ∨
    (s.txerr = false ∧ s.op = .turnOff ∧ completeSend s = { s with run := false, phase := .idle }) ∨
    (s.txerr = false ∧ (s.op = .setSpeed ∨ s.op = .reportSpeed) ∧ completeSend s = { s with phase := .idle }) := by
  cases he : s.txerr <;> cases ho : s.op <;> simp [completeSend, applyOp, goTo, he, ho]

/-- The three things RX_READ does on an empty FIFO. -/
theorem awaitByte_cases (s : State) :
    (s.cfg.rxTimeout = none ∧ awaitByte s = s) ∨
    (∃ limit, s.cfg.rxTimeout = some limit ∧ s.rxTimer < limit ∧ awaitByte s = { s with rxTimer := s.rxTimer + 1 }) ∨
    (∃ limit, s.cfg.rxTimeout = some limit ∧ limit ≤ s.rxTimer ∧ awaitByte s = raiseFault .responseTimeout s) := by
  cases h : s.cfg.rxTimeout with
  | none => simp [awaitByte, timedOut, h]
  | some limit =>
    by_cases hl : limit ≤ s.rxTimer <;> simp [awaitByte, timedOut, h, hl]
    omega

/-- Everything a phase step can do when it answers a next state. -/
theorem phaseStep_cases {s t : State} (h : phaseStep s = .next t) :
    (s.phase = .idle ∧ t = s) ∨
    (s.phase = .txAssert ∧ t = goTo .txSettle (dirAssert s)) ∨
    (s.phase = .txSettle ∧ t = goTo .txWrite { delay Config.tSettle s with idx := 0 }) ∨
    (s.phase = .txWrite ∧ ∃ hi : s.idx.toNat < 9, t = nextTxByte (txWrite s.txbuf[s.idx.toNat] s)) ∨
    (s.phase = .txDrain ∧ t = goTo .txRelease (delay (tDrain s.cfg) s)) ∨
    (s.phase = .txRelease ∧ t = goTo .txGuard (dirDeassert s)) ∨
    (s.phase = .txGuard ∧ t = completeSend (delay Config.tGuard s)) ∨
    (s.phase = .rxFlush ∧ ∃ b rest, s.rxFifo = b :: rest ∧ t = rxRead b rest (rxReadable s)) ∨
    (s.phase = .rxFlush ∧ s.rxFifo = [] ∧ t = goTo .rxRead { rxReadable s with idx := 0, rxTimer := 0 }) ∨
    (s.phase = .rxRead ∧ ∃ b rest, s.rxFifo = b :: rest ∧ ∃ hi : s.idx.toNat < 13,
      t = nextRxByte { rxRead b rest s with rxbuf := s.rxbuf.set s.idx.toNat b }) ∨
    (s.phase = .rxRead ∧ s.rxFifo = [] ∧ t = awaitByte s) ∨
    (s.phase = .rxDecode ∧ s.cfg.rxCheckFixed = true ∧ fixedBytesOk s.rxbuf = false ∧
      t = raiseFault .protocolFramingError s) ∨
    (s.phase = .rxDecode ∧ (s.cfg.rxCheckFixed = false ∨ fixedBytesOk s.rxbuf = true) ∧
      t = goTo .idle (decodeStatus s)) := by
  cases hp : s.phase <;> simp only [phaseStep, hp] at h
  case idle => simp_all
  case txAssert => simp_all [stepTxAssert]
  case txSettle => simp_all [stepTxSettle]
  case txWrite =>
    unfold stepTxWrite at h
    split at h
    · simp_all
    · cases h
  case txDrain => simp_all [stepTxDrain]
  case txRelease => simp_all [stepTxRelease]
  case txGuard => simp_all [stepTxGuard]
  case rxFlush =>
    cases hf : s.rxFifo <;> simp_all [stepRxFlush]
  case rxRead =>
    cases hf : s.rxFifo with
    | nil => simp_all [stepRxRead]
    | cons b rest =>
      simp only [stepRxRead, hf] at h
      split at h
      · simp_all
      · cases h
  case rxDecode =>
    cases hc : s.cfg.rxCheckFixed <;> cases ho : fixedBytesOk s.rxbuf <;> simp_all [stepRxDecode]

@[simp] theorem decodeStatus_eq (s : State) :
    decodeStatus s = { s with freqRaw := decodeFreq s.rxbuf, rpm := speedOf (decodeFreq s.rxbuf) } := rfl

/-- What no phase step writes. -/
theorem phaseStep_frame {s t : State} (h : phaseStep s = .next t) :
    t.freqCmd = s.freqCmd ∧ t.txbuf = s.txbuf ∧ t.op = s.op ∧ t.arg = s.arg ∧ t.wire = s.wire ∧ t.cfg = s.cfg ∧
      t.hostLog = s.hostLog ∧ t.inbox = s.inbox ∧ t.schedule = s.schedule ∧ t.beyond = s.beyond := by
  rcases phaseStep_cases h with ⟨_, rfl⟩ | ⟨_, rfl⟩ | ⟨_, rfl⟩ | ⟨_, _, rfl⟩ | ⟨_, rfl⟩ | ⟨_, rfl⟩ | ⟨_, rfl⟩ |
    ⟨_, _, _, _, rfl⟩ | ⟨_, _, rfl⟩ | ⟨_, _, _, _, _, rfl⟩ | ⟨_, _, rfl⟩ | ⟨_, _, _, rfl⟩ | ⟨_, _, rfl⟩
  case inr.inr.inr.inr.inr.inr.inl =>
    obtain ⟨_, e⟩ | ⟨_, _, e⟩ | ⟨_, _, e⟩ | ⟨_, _, e⟩ := completeSend_cases (delay Config.tGuard s) <;> simp [e]
  case inr.inr.inr.inr.inr.inr.inr.inr.inr.inr.inl =>
    obtain ⟨_, e⟩ | ⟨_, _, _, e⟩ | ⟨_, _, _, e⟩ := awaitByte_cases s <;> simp [e]
  all_goals simp [nextTxByte_eq, nextRxByte_eq]

/-! ### The turn and the step -/

theorem blockTurn_takes {s : State} {p : Presented} {rest : List Presented} (hi : s.inbox = p :: rest)
    (ht : takes p s = true) :
    blockTurn s = match decodeFor s.cfg.speedD3 p with
      | .ok i => .runs i { s with inbox := rest }
      | .error _ => .ends (.next (unmatched p { s with inbox := rest })) := by
  cases hd : decodeFor s.cfg.speedD3 p <;> simp [blockTurn, hi, ht, hd]

/-- A word that no row matches changes the receive FIFO only, and that by a drive's own bytes behind what is there. -/
theorem unmatched_eq (p : Presented) (s : State) :
    unmatched p s = { s with rxFifo := s.rxFifo ++ if p.fmt = .statFrame then p.bytes else [] } := by
  cases h : p.fmt <;> simp [unmatched, arrive, h]

theorem blockTurn_waits {s : State} (h : ∀ p ∈ s.inbox.head?, takes p s = false) :
    blockTurn s = .ends (phaseStep s) := by
  cases hi : s.inbox <;> simp_all [blockTurn]

/-- What a step uses up of the environment's plan. -/
theorem moveUsed_eq (s : State) :
    moveUsed s = { s with schedule := (moveUsed s).schedule, freeCtr := (moveUsed s).freeCtr } := by
  unfold moveUsed; split <;> (try split) <;> rfl

/-- A scheduled move comes first. -/
theorem nextMove_scheduled {s : State} {m : Move} {rest : List Move} (h : s.schedule = m :: rest) : nextMove s = m := by
  simp [nextMove, h]

theorem moveUsed_scheduled {s : State} {m : Move} {rest : List Move} (h : s.schedule = m :: rest) :
    moveUsed s = { s with schedule := rest } := by
  simp [moveUsed, h]

/-- With nothing scheduled the moves that recur come, one after the other. -/
theorem nextMove_recurs {s : State} {m : Move} {rest : List Move} (h : s.schedule = []) (hb : s.beyond = .recurs m rest) :
    nextMove s = m := by
  simp [nextMove, h, hb]

theorem moveUsed_recurs {s : State} {m : Move} {rest : List Move} (h : s.schedule = []) (hb : s.beyond = .recurs m rest) :
    moveUsed s = { s with schedule := rest } := by
  simp [moveUsed, h, hb]

theorem takes_moveUsed (p : Presented) (s : State) : takes p (moveUsed s) = takes p s := by
  simp [takes, State.busy]

theorem turn_environment {s : State} {m : Move} (hs : nextMove s = m) (hm : m ≠ .block) :
    turn s = .ends (.next (environment m (moveUsed s))) := by
  cases m <;> simp_all [turn]

theorem turn_block {s : State} (hs : nextMove s = .block) : turn s = blockTurn (moveUsed s) := by
  simp [turn, hs]

/-- A step of someone other than the block. -/
theorem step_environment {s : State} {m : Move} (hs : nextMove s = m) (hm : m ≠ .block) :
    step s = .next (environment m (moveUsed s)) := by
  simp [step, turn_environment hs hm]

/-- The block's turn on a word it takes. -/
theorem turn_takes {s : State} {p : Presented} {rest : List Presented} (hs : nextMove s = .block) (hi : s.inbox = p :: rest)
    (ht : takes p s = true) :
    turn s = match decodeFor s.cfg.speedD3 p with
      | .ok i => .runs i { moveUsed s with inbox := rest }
      | .error _ => .ends (.next (unmatched p { moveUsed s with inbox := rest })) := by
  rw [turn_block hs, blockTurn_takes (by rw [moveUsed_inbox, hi]) (by rw [takes_moveUsed, ht])]
  simp only [moveUsed_cfg]

/-- A step that runs an instruction. -/
theorem step_runs {s : State} {p : Presented} {rest : List Presented} {i : Instr} (hs : nextMove s = .block)
    (hi : s.inbox = p :: rest) (hd : decodeFor s.cfg.speedD3 p = .ok i) (ht : takes p s = true) :
    step s = exec i { moveUsed s with inbox := rest } := by
  simp [step, turn_takes hs hi ht, hd]

/-- A step on a word that no row matches. -/
theorem step_unmatched {s : State} {p : Presented} {rest : List Presented} {e : DecodeError} (hs : nextMove s = .block)
    (hi : s.inbox = p :: rest) (hd : decodeFor s.cfg.speedD3 p = .error e) (ht : takes p s = true) :
    step s = .next (unmatched p { moveUsed s with inbox := rest }) := by
  simp [step, turn_takes hs hi ht, hd]

/-- A step of the phase, when no word is taken. -/
theorem step_phase {s : State} (h : BlockMoves s) : step s = phaseStep (moveUsed s) := by
  have h' : ∀ p ∈ (moveUsed s).inbox.head?, takes p (moveUsed s) = false := by
    intro p hp
    rw [moveUsed_inbox] at hp
    rw [takes_moveUsed]; exact h.2 p hp
  simp [step, turn_block h.1, blockTurn_waits h']

theorem takes_eq_true (p : Presented) (s : State) : takes p s = true ↔ p.fmt = .statFrame ∨ s.phase = .idle := by
  simp [takes, busy_eq_false]

theorem takes_eq_false (p : Presented) (s : State) : takes p s = false ↔ p.fmt ≠ .statFrame ∧ s.phase ≠ .idle := by
  rw [← Bool.not_eq_true, takes_eq_true]; tauto

/-- Undisturbed, a busy block takes its turn and no word. -/
theorem Undisturbed.blockMoves {s : State} (hu : Undisturbed s) (hb : s.phase ≠ .idle) : BlockMoves s :=
  ⟨nextMove_recurs hu.1 hu.2.1, fun p hp => (takes_eq_false p s).2 ⟨hu.2.2 p hp, hb⟩⟩

/-- Undisturbed, the environment stays as it is. -/
theorem Undisturbed.moveUsed_eq {s : State} (hu : Undisturbed s) : moveUsed s = s := by
  rw [moveUsed_recurs hu.1 hu.2.1, ← hu.1]

/-- When no one else moves, a busy block does its phase. -/
theorem step_undisturbed {s : State} (hu : Undisturbed s) (hb : s.phase ≠ .idle) : step s = phaseStep s := by
  rw [step_phase (hu.blockMoves hb), hu.moveUsed_eq]

/-- Everything a step can do when it answers a next state: someone else's move, an instruction, a word that no row
matches, or the phase. -/
theorem step_cases {s t : State} (h : step s = .next t) :
    (nextMove s ≠ .block ∧ t = environment (nextMove s) (moveUsed s)) ∨
    (nextMove s = .block ∧ ∃ p rest i, s.inbox = p :: rest ∧ takes p s = true ∧ decodeFor s.cfg.speedD3 p = .ok i ∧
      exec i { moveUsed s with inbox := rest } = .next t) ∨
    (nextMove s = .block ∧ ∃ p rest e, s.inbox = p :: rest ∧ takes p s = true ∧ decodeFor s.cfg.speedD3 p = .error e ∧
      t = unmatched p { moveUsed s with inbox := rest }) ∨
    (BlockMoves s ∧ phaseStep (moveUsed s) = .next t) := by
  by_cases hs : nextMove s = .block
  · right
    by_cases hw : ∀ p ∈ s.inbox.head?, takes p s = false
    · exact .inr (.inr ⟨⟨hs, hw⟩, by rwa [step_phase ⟨hs, hw⟩] at h⟩)
    · cases hi : s.inbox with
      | nil => simp [hi] at hw
      | cons p rest =>
        have ht : takes p s = true := by simpa [hi] using hw
        cases hd : decodeFor s.cfg.speedD3 p with
        | ok i => exact .inl ⟨hs, p, rest, i, rfl, ht, hd, by rwa [step_runs hs hi hd ht] at h⟩
        | error e =>
          rw [step_unmatched hs hi hd ht] at h
          injection h with h
          exact .inr (.inl ⟨hs, p, rest, e, rfl, ht, hd, h.symm⟩)
  · left
    rw [step_environment rfl hs] at h
    injection h with h
    exact ⟨hs, h.symm⟩

/-! ### Runs -/

theorem steps_zero (s : State) : steps 0 s = .next s := rfl

theorem steps_succ {s t : State} (n : Nat) (h : step s = .next t) : steps (n + 1) s = steps n t := by
  simp [steps, h]

/-- A run is one run after another. -/
theorem steps_add {s t : State} (m n : Nat) (h : steps m s = .next t) : steps (m + n) s = steps n t := by
  induction m generalizing s with
  | zero => cases h; simp
  | succ m ih =>
    cases hs : step s with
    | next u => rw [steps_succ m hs] at h; rw [Nat.succ_add, steps_succ _ hs, ih h]
    | fault f => simp [steps, hs] at h
    | refused r => simp [steps, hs] at h

end Sys2Proof.Machine
end

