-- ==== Sys2Proof/Laws/PerInstr.lean ====
section
/-! SUPPORT. Families of statements made per instruction: the length of an encoded word (30_encoding.md R70). -/

namespace Sys2Proof.Laws.EncodedLength

/-- An encoded word has its row's format and that format's fixed length. -/
def Statement (i : Instr) : Prop :=
  (encode i).fmt = i.format ∧ (encode i).bytes.length = i.format.length

theorem turnOn (arg : Rpm) : Statement (.turnOn arg) := ⟨rfl, rfl⟩
theorem turnOff (arg : Rpm) : Statement (.turnOff arg) := ⟨rfl, rfl⟩
theorem setSpeed (rpm : Rpm) : Statement (.setSpeed rpm) := ⟨rfl, rfl⟩
theorem reportSpeed (arg : Rpm) : Statement (.reportSpeed arg) := ⟨rfl, rfl⟩
theorem framePowerOn : Statement .framePowerOn := ⟨rfl, rfl⟩
theorem framePowerOff : Statement .framePowerOff := ⟨rfl, rfl⟩
theorem frameSpeed (d1 d2 x a : Byte) : Statement (.frameSpeed d1 d2 x a) := ⟨rfl, rfl⟩
theorem frameStatus (d1 d2 d3 d4 d5 d6 x a : Byte) : Statement (.frameStatus d1 d2 d3 d4 d5 d6 x a) := ⟨rfl, rfl⟩

end Sys2Proof.Laws.EncodedLength
end

