-- ==== Sys2Proof/Tests/Slice0.lean ====
section
/-! SUPPORT. The model's own tests. Expected values come from spec/95_test_vectors.md (named in each section) or from the
formats of spec/30_encoding.md, by hand. Below them, for every statement with hypotheses, a state and operands that
meet all of them. -/

namespace Sys2Proof.Machine

/-! ## Helpers -/

/-- The next state of an outcome. -/
def nextOf : Outcome → Option State
  | .next t => some t
  | .fault _ => none
  | .refused _ => none

/-- One field of the next state of an outcome. -/
def seen {α : Type} (o : Outcome) (f : State → α) : Option α := (nextOf o).map f

/-- The power-on frame. -/
def onFrame : Vector Byte 9 := #v[0x00, 0x55, 0x00, 0x00, 0x00, 0x01, 0x54, 0xAA, 0xFF]

/-- The block in a phase of a TURN_ON, IDX and the line as given. -/
def sendingAt (p : Phase) (idx : BitVec 4) (line : Bool) : State :=
  { State.reset with phase := p, idx := idx, dir := line, txbuf := onFrame }

/-- The block at the end of a `send` for an operation. -/
def guarding (o : HostOp) (txerr : Bool) : State :=
  { State.reset with phase := .txGuard, op := o, txerr := txerr, txbuf := onFrame
                     cfg := { Config.default with hasTxErr := true } }

/-- The block in RX_READ at an index with a FIFO, a bound and a timer. -/
def reading (idx : BitVec 4) (fifo : List Byte) (bound : Option Nat) (timer : Nat) : State :=
  { State.reset with phase := .rxRead, op := .reportSpeed, idx := idx, rxFifo := fifo, rxTimer := timer
                     cfg := { Config.default with rxTimeout := bound } }

/-- The block in RX_DECODE with a frame, checked or not. -/
def decoding (check : Bool) (frame : Vector Byte 13) : State :=
  { State.reset with phase := .rxDecode, op := .reportSpeed, rxbuf := frame
                     cfg := { Config.default with rxCheckFixed := check } }

/-- A status frame of five digit bytes, the rest as the first row of V-RP's fixed-byte table. -/
def digits (d1 d2 d3 d4 d5 : Byte) : Vector Byte 13 :=
  #v[0x00, 0x55, d1, d2, d3, d4, d5, 0x02, 0x01, 0x00, 0x12, 0x34, 0xFF]

/-! ## WellFormed: each check refuses an ill-formed term and accepts a good one -/

theorem test_wf_speed_3000 : (Instr.frameSpeed 0x13 0x88 0xCF 0xC0).wf = true := by decide
theorem test_wf_trailer_refused : (Instr.frameSpeed 0x13 0x88 0xCF 0xC1).wf = false := by decide
theorem test_wf_trailer_check : speedTrailerOk 0x13 0x88 0xCE 0xC0 = false := by decide
theorem test_wf_multiple_of_four : speedFieldOk 0x8A = false := by decide
/-- Payload 55 13 8A 00 01: XOR CD, sum F3, ADD C0: a good trailer on a frequency that is not a multiple of 4. -/
theorem test_wf_frequency_refused :
    speedTrailerOk 0x13 0x8A 0xCD 0xC0 = true ∧ (Instr.frameSpeed 0x13 0x8A 0xCD 0xC0).wf = false := by decide
theorem test_config_default_wf : Config.default.wf := by decide
theorem test_config_denominator_refused : ¬ Config.wf { Config.default with perByteDen := 0 } := by decide

/-! ## Decode and encode: words written out from 30_encoding.md R71 to R76 -/

theorem test_decode_turn_on : decode ⟨.hostCmd, [0b00000000, 0, 0, 0, 0]⟩ = .ok (.turnOn 0) := by decide
theorem test_decode_turn_off : decode ⟨.hostCmd, [0b00000001, 0x7F, 0, 0, 0]⟩ = .ok (.turnOff 127) := by decide
theorem test_decode_set_speed :
    decode ⟨.hostCmd, [0b00000010, 0x60, 0xEA, 0x00, 0x01]⟩ = .ok (.setSpeed 0x0100EA60) := by decide
theorem test_decode_report_speed : decode ⟨.hostCmd, [0b00000011, 0, 0, 0, 0x80]⟩ = .ok (.reportSpeed 0x80000000) := by
  decide
theorem test_decode_power_on :
    decode ⟨.cmdFrame, [0x00, 0x55, 0x00, 0x00, 0x00, 0x01, 0x54, 0xAA, 0xFF]⟩ = .ok .framePowerOn := by decide
theorem test_decode_power_off :
    decode ⟨.cmdFrame, [0x00, 0x55, 0x00, 0x00, 0x01, 0x01, 0x55, 0xAC, 0xFF]⟩ = .ok .framePowerOff := by decide
theorem test_decode_speed_39359 :
    decode ⟨.cmdFrame, [0x00, 0x55, 0xFF, 0xDC, 0x00, 0x01, 0x77, 0xA8, 0xFF]⟩ =
      .ok (.frameSpeed 0xFF 0xDC 0x77 0xA8) := by decide
theorem test_decode_status :
    decode ⟨.statFrame, [0x00, 0x55, 0x04, 0x05, 0x06, 0x07, 0x08, 0x02, 0x01, 0x00, 0x12, 0x34, 0xFF]⟩ =
      .ok (.frameStatus 0x04 0x05 0x06 0x07 0x08 0x02 0x12 0x34) := by decide
theorem test_decode_op_bits_refused : decode ⟨.hostCmd, [0b00000100, 0, 0, 0, 0]⟩ = .error .hostCmdOpBits := by decide
theorem test_decode_short_refused :
    decode ⟨.hostCmd, [0]⟩ = .error .hostCmdLength ∧ decode ⟨.cmdFrame, [0x00, 0x55]⟩ = .error .cmdFrameLength ∧
    decode ⟨.statFrame, []⟩ = .error .statFrameLength := by decide
/-- The reference's faulty power-on frame, ADD = A9 (90_conflicts.md C1): the row's trailer bytes are free. -/
theorem test_decode_printed_trailer :
    decode ⟨.cmdFrame, [0x00, 0x55, 0x00, 0x00, 0x00, 0x01, 0x54, 0xA9, 0xFF]⟩ =
      .ok (.frameSpeed 0x00 0x00 0x54 0xA9) ∧ (Instr.frameSpeed 0x00 0x00 0x54 0xA9).wf = false := by decide
theorem test_decode_frame_refused :
    decode ⟨.cmdFrame, [0x00, 0x55, 0x13, 0x88, 0x01, 0x01, 0xCE, 0xC0, 0xFF]⟩ = .error .cmdFrameNoRow := by decide
theorem test_decode_status_refused :
    decode ⟨.statFrame, [0x00, 0x55, 0x01, 0x05, 0x00, 0x00, 0x00, 0x02, 0x01, 0x01, 0x12, 0x34, 0xFF]⟩ =
      .error .statFrameNoRow := by decide
theorem test_encode_set_speed : encode (.setSpeed 3000) = ⟨.hostCmd, [0x02, 0xB8, 0x0B, 0x00, 0x00]⟩ := by decide

/-! ## The numbering of the opcode table: index 0 in the low byte, and as `match` is written -/

theorem test_table_host :
    decodeTableWord 8 0 = some (.turnOn 0) ∧ decodeTableWord 8 1 = some (.turnOff 0) ∧
    decodeTableWord 8 2 = some (.setSpeed 0) ∧ decodeTableWord 8 3 = some (.reportSpeed 0) := by decide
theorem test_table_host_refused : decodeTableWord 8 4 = none := by decide
theorem test_table_power_on :
    decodeTableWord 72 0xFFAA54010000005500 = some .framePowerOn ∧
    decodeTableWord 72 0x00550000000154AAFF = some .framePowerOn := by decide
theorem test_table_power_off :
    decodeTableWord 72 0xFFAC55010100005500 = some .framePowerOff ∧
    decodeTableWord 72 0x00550000010155ACFF = some .framePowerOff := by decide
theorem test_table_speed :
    decodeTableWord 72 0xFFC0CF010088135500 = some (.frameSpeed 0x13 0x88 0xCF 0xC0) ∧
    decodeTableWord 72 0x005513880001CFC0FF = some (.frameSpeed 0x13 0x88 0xCF 0xC0) := by decide
theorem test_table_status :
    decodeTableWord 104 0xFF341200010208070605045500 = some (.frameStatus 0x04 0x05 0x06 0x07 0x08 0x02 0x12 0x34) ∧
    decodeTableWord 104 0x005504050607080201001234FF = some (.frameStatus 0x04 0x05 0x06 0x07 0x08 0x02 0x12 0x34) := by
  decide

/-! ## The word placed after reset is what the next step runs -/

theorem test_fetch_turn_on : seen (step (State.reset.withFetchWord 8 0)) State.phase = some .txAssert := by decide
theorem test_fetch_turn_off :
    seen (step (State.reset.withFetchWord 8 1)) (fun t => t.txbuf[4]) = some 0x01 := by decide
theorem test_fetch_set_speed : seen (step (State.reset.withFetchWord 8 2)) State.op = some .setSpeed := by decide
theorem test_fetch_report_speed : seen (step (State.reset.withFetchWord 8 3)) State.phase = some .rxFlush := by decide
theorem test_fetch_power_on :
    seen (step (State.reset.withFetchWord 72 0xFFAA54010000005500)) State.txbuf = some onFrame := by decide
theorem test_fetch_power_off :
    seen (step (State.reset.withFetchWord 72 0xFFAC55010100005500)) (fun t => t.txbuf[7]) = some 0xAC := by decide
theorem test_fetch_speed :
    seen (step (State.reset.withFetchWord 72 0xFFC0CF010088135500)) State.freqCmd = some 0x1388 := by decide
theorem test_fetch_status :
    seen (step (State.reset.withFetchWord 104 0xFF341200010208070605045500)) (fun t => t.rxFifo.length) = some 13 := by
  decide

/-! ## CK: V-CK -/

theorem test_ck_all_ones : ck #v[0xFF, 0xFF, 0xFF, 0xFF, 0xFF] = (0xFF, 0xFA) := by decide
theorem test_ck_add_wraps : ck #v[0xAA, 0x55, 0xAA, 0x55, 0xAA] = (0xAA, 0x52) := by decide

/-! ## FB: V-FB -/

theorem test_set_speed_3000 :
    seen (exec (.setSpeed 3000) State.reset) State.txbuf =
      some #v[0x00, 0x55, 0x13, 0x88, 0x00, 0x01, 0xCF, 0xC0, 0xFF] := by decide
theorem test_set_speed_first_wrap :
    seen (exec (.setSpeed 39360) State.reset) (fun t => (t.freqCmd, t.fault)) = some (0x0040, 0) := by decide
theorem test_freq16_largest : freq16 39359 = 0xFFDC ∧ freq16 4294967295 = 0xAA90 := by decide
theorem test_speed_d3 : speedFrame 0x01 0x1388 = #v[0x00, 0x55, 0x13, 0x88, 0x01, 0x01, 0xCE, 0xC0, 0xFF] := by decide
theorem test_turn_on_frame : seen (exec (.turnOn 7) State.reset) State.txbuf = some onFrame := by decide
theorem test_turn_off_trailer :
    seen (exec (.turnOff 7) State.reset) (fun t => (t.txbuf[6], t.txbuf[7], t.arg)) = some (0x55, 0xAC, 7) := by decide
theorem test_frame_speed_trailer_is_built :
    seen (exec (.frameSpeed 0x13 0x88 0x00 0x00) State.reset) (fun t => (t.txbuf[6], t.txbuf[7])) =
      some (0xCF, 0xC0) := by decide

/-! ## TS: V-TS -/

theorem test_assert_raises_line :
    seen (step (sendingAt .txAssert 0 false)) (fun t => (t.phase, t.dir, t.trace)) =
      some (.txSettle, true, [.dirAssert]) := by decide
theorem test_last_write :
    seen (step (sendingAt .txWrite 8 true)) (fun t => (t.phase, t.idx, t.trace)) =
      some (.txDrain, 9, [.txWrite 0xFF]) := by decide
theorem test_drain_default :
    seen (step (sendingAt .txDrain 9 true)) (fun t => (t.phase, t.dir, t.trace)) =
      some (.txRelease, true, [.delay 10]) := by decide
theorem test_drain_wait_values :
    tDrain { Config.default with perByteNum := 10, perByteDen := 9 } = 10 ∧
    tDrain { Config.default with perByteNum := 10009, perByteDen := 9000 } = 11 ∧
    tDrain { Config.default with perByteNum := 5, perByteDen := 6 } = 8 ∧
    tDrain { Config.default with perByteNum := 55, perByteDen := 48 } = 11 := by decide
theorem test_write_error_latched :
    seen (step { sendingAt .txWrite 3 true with cfg := { Config.default with hasTxErr := true }, txErrs := [true] })
      (fun t => (t.txerr, t.idx, t.fault)) = some (true, 4, 0) := by decide
theorem test_write_error_not_read :
    seen (step { sendingAt .txWrite 3 true with txErrs := [true] }) State.txerr = some false := by decide
theorem test_turn_on_fails :
    seen (step (guarding .turnOn true)) (fun t => (t.run, t.fault, t.phase)) = some (false, 2, .idle) := by decide
theorem test_turn_on_completes :
    seen (step (guarding .turnOn false)) (fun t => (t.run, t.fault, t.trace)) = some (true, 0, [.delay 50]) := by decide

/-! ## RP: V-RP -/

theorem test_flush_one :
    seen (step { State.reset with phase := .rxFlush, rxFifo := [0xFF] }) (fun t => (t.phase, t.rxFifo, t.trace)) =
      some (.rxFlush, [], [.rxReadable true, .rxRead 0xFF]) := by decide
theorem test_flush_ends :
    seen (step { State.reset with phase := .rxFlush, idx := 9 }) (fun t => (t.phase, t.idx, t.trace)) =
      some (.rxRead, 0, [.rxReadable false]) := by decide
theorem test_last_read :
    seen (step (reading 12 [0xFF, 0x00] none 0)) (fun t => (t.phase, t.rxbuf[12], t.rxFifo)) =
      some (.rxDecode, 0xFF, [0x00]) := by decide
theorem test_timeout :
    seen (step (reading 4 [] (some 100) 100)) (fun t => (t.phase, t.fault, t.trace)) = some (.idle, 3, []) := by decide
theorem test_before_timeout :
    seen (step (reading 4 [] (some 100) 99)) (fun t => (t.phase, t.fault)) = some (.rxRead, 0) := by decide
theorem test_decode_x5 :
    seen (step (decoding false (digits 0 0 2 5 0))) (fun t => (t.freqRaw, t.rpm)) = some (2, 0) := by decide
theorem test_decode_maximum :
    seen (step (decoding true (digits 255 255 255 255 255))) (fun t => (t.freqRaw, t.rpm, t.fault)) =
      some (28333, 16980, 0) := by decide
theorem test_digits_carry :
    decodeFreq (digits 0 0 0 9 10) = 1 ∧ decodeFreq (digits 85 1 5 0 0) = 8515 ∧ speedOf 8515 = 5100 := by decide
theorem test_fixed_byte_wrong :
    seen (step (decoding true ((digits 1 5 0 0 0).set 12 0xFE))) (fun t => (t.fault, t.freqRaw, t.phase)) =
      some (1, 0, .idle) := by decide
theorem test_fixed_bytes_each :
    fixedBytesOk (digits 1 5 0 0 0) = true ∧ fixedBytesOk ((digits 1 5 0 0 0).set 0 0x01) = false ∧
    fixedBytesOk ((digits 1 5 0 0 0).set 1 0x54) = false ∧ fixedBytesOk ((digits 1 5 0 0 0).set 8 0x00) = false ∧
    fixedBytesOk ((digits 1 5 0 0 0).set 9 0x01) = false := by decide

/-! ## SC: V-SC, and the moves around the block -/

theorem test_acceptance_clears_fault :
    seen (exec (.setSpeed 60) { State.reset with fault := 3, run := true, txerr := true })
      (fun t => (t.fault, t.txerr, t.run, t.freqCmd)) = some (0, false, true, 0x0064) := by decide
theorem test_busy_accepts_nothing :
    seen (exec (.turnOff 1) (guarding .turnOn false)) (fun t => (t.phase, t.op, t.arg, t.inbox.length)) =
      some (.txGuard, .turnOn, 0, 1) := by decide
theorem test_report_speed_accepted :
    seen (exec (.reportSpeed 0) { State.reset with run := true }) (fun t => (t.phase, t.run, t.txbuf)) =
      some (.rxFlush, true, Vector.replicate 9 0) := by decide
theorem test_reset_keeps_fifo :
    seen (step { sendingAt .txWrite 3 true with rxFifo := [0x12], schedule := [.reset] })
      (fun t => (t.phase, t.dir, t.rxFifo, t.trace)) = some (.idle, false, [0x12], []) := by decide
theorem test_host_reads_busy :
    seen (step { sendingAt .txWrite 3 true with schedule := [.hostRead .busy] }) State.hostLog =
      some [(.busy, 1)] := by decide
theorem test_host_reads_fault :
    seen (step { State.reset with fault := 3, schedule := [.hostRead .fault, .hostRead .rpm] }) State.hostLog =
      some [(.fault, 3)] := by decide
theorem test_bits_per_byte : Config.framing.bitsPerByte = 10 ∧ Config.baud = 9600 := by decide
theorem test_recurring_stream :
    seen (step { State.reset with phase := .rxFlush, beyond := .recurs (.rxArrive 0x55) [.block] })
      (fun t => (t.rxFifo, t.schedule)) = some ([0x55], [.block]) := by decide
/-- 30_encoding.md R82: thirteen bytes that are no status frame (K1 is 0x01) still arrive and are read and decoded. -/
theorem test_torn_frame_arrives :
    seen (step { State.reset with inbox := [⟨.statFrame, [0x00, 0x55, 1, 5, 0, 0, 0, 2, 0x01, 0x01, 0x12, 0x34, 0xFF]⟩] })
      (fun t => (t.rxFifo, t.inbox)) = some ([0x00, 0x55, 1, 5, 0, 0, 0, 2, 0x01, 0x01, 0x12, 0x34, 0xFF], []) := by decide
theorem test_no_operation_writes_nothing :
    step { State.reset with inbox := [⟨.hostCmd, [0x04, 0, 0, 0, 0]⟩] } = .next State.reset := by rfl
/-- 30_encoding.md R74: with SPEED_D3 = 0x02 the speed frame of 5000 has 0x02 at index 4. -/
theorem test_speed_frame_of_block :
    seen (step { State.reset with
        cfg := { Config.default with speedD3 := 0x02 }
        inbox := [⟨.cmdFrame, [0x00, 0x55, 0x13, 0x88, 0x02, 0x01, 0xCD, 0xC0, 0xFF]⟩] })
      (fun t => (t.txbuf, t.freqCmd)) = some (#v[0x00, 0x55, 0x13, 0x88, 0x02, 0x01, 0xCD, 0xC0, 0xFF], 5000) := by decide
theorem test_index_outside_buffer :
    step (sendingAt .txWrite 9 true) = .fault .txIndexOutsideBuffer ∧
    step (reading 13 [0x00] none 0) = .fault .rxIndexOutsideBuffer := ⟨rfl, rfl⟩

/-! ## Witnesses: states and operands that meet a statement's hypotheses -/

/-- A state with nothing scheduled, the block alone after that, and nothing presented is undisturbed. -/
theorem undisturbed_alone {s : State} (h : s.schedule = []) (hb : s.beyond = .recurs .block []) (hi : s.inbox = []) :
    Undisturbed s := by
  simp [Undisturbed, h, hb, hi]

/-- On its turn, with nothing presented, the block takes no word. -/
theorem blockMoves_alone {s : State} (h : nextMove s = .block) (hi : s.inbox = []) : BlockMoves s := by
  simp [BlockMoves, h, hi]

/-- The invariant in the middle of a `send`, at its last byte. -/
theorem sending_inv : Inv (sendingAt .txWrite 8 true) := by
  constructor <;> first | decide | exact fun h => absurd h (by decide) | (intro; constructor <;> decide)

/-- The invariant at the end of a failed `send`. -/
theorem guarding_inv : Inv (guarding .turnOn true) := by
  constructor <;> first | decide | exact fun h => absurd h (by decide) | (intro; constructor <;> decide)

/-- The invariant in RX_READ at the bound and at the last index. -/
theorem reading_inv (fifo : List Byte) : Inv (reading 12 fifo (some 100) 100) := by
  constructor <;> first | decide | simp [reading, State.reset, Phase.transmitting, Phase.receiving, Phase.lineAsserted,
    State.busy, writtenBytes]

/-- The invariant in RX_DECODE with a frame whose fixed bytes differ. -/
theorem decoding_inv : Inv (decoding true ((digits 1 5 0 0 0).set 12 0xFE)) := by
  constructor <;> first | decide | exact fun h => absurd h (by decide)

/-- The invariant with a byte left to discard in RX_FLUSH. -/
theorem flushing_inv : Inv { State.reset with phase := .rxFlush, op := .reportSpeed, rxFifo := [0xFF] } := by
  constructor <;> first | decide | exact fun h => absurd h (by decide)

theorem witness_ResetLeavesBlockIdleAndListening : ∃ s : State, nextMove s = .reset ∧ s.phase = .txWrite ∧ s.rxFifo = [0x12] :=
  ⟨{ sendingAt .txWrite 3 true with rxFifo := [0x12], schedule := [.reset] }, rfl, rfl, rfl⟩
theorem witness_ResetEventAbandonsOperation :
    ∃ s : State, nextMove s = .reset ∧ s.phase = .rxRead ∧ s.rxFifo = [0x12] :=
  ⟨{ reading 4 [0x12] none 0 with beyond := .recurs .reset [.block] }, rfl, rfl, rfl⟩
theorem witness_IdleBlockWaits : ∃ s : State, s.phase = .idle ∧ s.inbox = [] ∧ nextMove s = .block :=
  ⟨State.reset, rfl, rfl, rfl⟩
theorem witness_IdleBlockWaits_accepts :
    ∃ s t : State, s.phase = .idle ∧ step s = .next t ∧ t.phase = .txAssert :=
  ⟨{ State.reset with inbox := [encode (.turnOn 0)] }, _, rfl, rfl, by decide⟩
theorem witness_EveryStepKeepsInvariant : ∃ s t : State, Inv s ∧ step s = .next t ∧ t.phase = .txDrain :=
  ⟨_, _, sending_inv, rfl, by decide⟩
theorem witness_NoFaultUnderInvariant : ∃ s : State, Inv s ∧ s.phase = .txWrite ∧ s.idx = 8 :=
  ⟨_, sending_inv, rfl, rfl⟩
theorem witness_ChecksumIgnoresOrderAndMissesBitSeven :
    ∃ p q : Payload, p.toList.Perm q.toList ∧ p ≠ q :=
  ⟨#v[1, 2, 3, 4, 5], #v[2, 1, 3, 4, 5], List.Perm.swap 2 1 [3, 4, 5], by decide⟩
theorem witness_SetSpeedBuildsFrequencyFrame : ∃ s : State, s.phase = .idle ∧ s.cfg.speedD3 = 0x01 :=
  ⟨{ State.reset with cfg := { Config.default with speedD3 := 0x01 } }, rfl, rfl⟩
theorem witness_FrequencyWrapsFrom39360 : ∃ s : State, s.phase = .idle ∧ s.fault = 3 :=
  ⟨{ State.reset with fault := 3 }, rfl, rfl⟩
theorem witness_SpeedsQuantisedToSixtyRpm :
    ∃ (r q : Rpm) (s t u : State), s.phase = .idle ∧ r.toNat / 60 = q.toNat / 60 ∧ r ≠ q ∧
      exec (.setSpeed r) s = .next t ∧ exec (.setSpeed q) s = .next u :=
  ⟨60, 119, State.reset, _, _, rfl, by decide, by decide, rfl, rfl⟩
theorem witness_SpeedsQuantisedToSixtyRpm_below :
    ∃ (r q : Rpm) (s t u : State), s.phase = .idle ∧ r.toNat / 60 = q.toNat / 60 ∧ r.toNat = 59 ∧ q.toNat = 0 ∧
      exec (.setSpeed r) s = .next t ∧ exec (.setSpeed q) s = .next u :=
  ⟨59, 0, State.reset, _, _, rfl, by decide, by decide, by decide, rfl, rfl⟩
theorem witness_ZeroFrequencyFrameIsPowerFrame_on :
    ∃ (rpm arg : Rpm) (s t u : State), s.phase = .idle ∧ rpm.toNat / 60 * 100 % 65536 = 0 ∧ s.cfg.speedD3 = 0x00 ∧
      exec (.setSpeed rpm) s = .next t ∧ exec (.turnOn arg) s = .next u :=
  ⟨59, 0, State.reset, _, _, rfl, by decide, rfl, rfl, rfl⟩
/-- 983040 = 60 * 16384: the frequency wraps to 0. -/
theorem witness_ZeroFrequencyFrameIsPowerFrame_off :
    ∃ (rpm arg : Rpm) (s t u : State), s.phase = .idle ∧ rpm.toNat / 60 * 100 % 65536 = 0 ∧ s.cfg.speedD3 = 0x01 ∧
      exec (.setSpeed rpm) s = .next t ∧ exec (.turnOff arg) s = .next u :=
  ⟨983040, 0, { State.reset with cfg := { Config.default with speedD3 := 0x01 } }, _, _, rfl, by decide, rfl, rfl, rfl⟩
theorem witness_ZeroFrequencyFrameIsPowerFrame_below : ∃ rpm : Rpm, rpm.toNat < 60 := ⟨59, by decide⟩
theorem witness_PowerRowsBuildTheirFrames : ∃ s : State, s.phase = .idle := ⟨State.reset, rfl⟩
theorem witness_SpeedRowBuildsItsFrame :
    ∃ (d1 d2 x a : Byte) (s : State), s.phase = .idle ∧ s.cfg.speedD3 = 0x00 ∧
      (Instr.frameSpeed d1 d2 x a).wf = true :=
  ⟨0x13, 0x88, 0xCF, 0xC0, State.reset, rfl, rfl, by decide⟩
theorem witness_TurnOnIsAccepted : ∃ s : State, s.phase = .idle ∧ s.run = true := ⟨{ State.reset with run := true }, rfl, rfl⟩
theorem witness_TurnOffIsAccepted : ∃ s : State, s.phase = .idle ∧ s.run = false := ⟨State.reset, rfl, rfl⟩
theorem witness_ReportSpeedIsAccepted : ∃ s : State, s.phase = .idle ∧ s.fault = 1 :=
  ⟨{ State.reset with fault := 1 }, rfl, rfl⟩
theorem witness_AcceptanceOnlyWhenIdle_accepted : ∃ s : State, s.phase = .idle := ⟨State.reset, rfl⟩
theorem witness_AcceptanceOnlyWhenIdle_busy : ∃ s : State, s.phase ≠ .idle := ⟨guarding .turnOn false, by decide⟩
theorem witness_AcceptanceOnlyWhenIdle_held :
    ∃ (p : Presented) (rest : List Presented) (s t : State), s.phase ≠ .idle ∧ nextMove s = .block ∧ s.inbox = p :: rest ∧
      p.fmt = .hostCmd ∧ step s = .next t :=
  ⟨encode (.turnOff 0), [], { guarding .turnOn false with inbox := [encode (.turnOff 0)] }, _, by decide, rfl, rfl, rfl,
    rfl⟩
theorem witness_AcceptanceOnlyWhenIdle_withdrawn :
    ∃ (p : Presented) (rest : List Presented) (s : State), nextMove s = .hostWithdraw ∧ s.inbox = p :: rest :=
  ⟨encode (.turnOff 0), [],
    { guarding .turnOn false with inbox := [encode (.turnOff 0)], schedule := [.hostWithdraw] }, rfl, rfl⟩
theorem witness_CommandFrameHeldWhileBusy :
    ∃ (i : Instr) (s : State), i.format = .cmdFrame ∧ s.phase ≠ .idle :=
  ⟨.framePowerOff, sendingAt .txWrite 3 true, rfl, by decide⟩
theorem witness_DecodeOfEncode : ∃ i : Instr, i.canon ≠ i := ⟨.frameSpeed 0x00 0x00 0x54 0xAA, by decide⟩
theorem witness_EncodeOfDecode_ofBlock :
    ∃ (d : Byte) (p : Presented) (i : Instr), decodeFor d p = .ok i ∧ decode p = .error .cmdFrameNoRow :=
  ⟨0x02, ⟨.cmdFrame, [0x00, 0x55, 0x13, 0x88, 0x02, 0x01, 0xCD, 0xC0, 0xFF]⟩, .frameSpeed 0x13 0x88 0xCD 0xC0, by decide,
    by decide⟩
theorem witness_EncodeOfDecode : ∃ (p : Presented) (i : Instr), decode p = .ok i :=
  ⟨⟨.cmdFrame, [0x00, 0x55, 0x13, 0x88, 0x00, 0x01, 0xCF, 0xC0, 0xFF]⟩, .frameSpeed 0x13 0x88 0xCF 0xC0, by decide⟩
theorem witness_RowsOverlapInPowerOnOnly : ∃ f : List Byte, f.length = 9 ∧ rowPowerOn.admits f = true :=
  ⟨onFrame.toList, by decide, by decide⟩
theorem witness_StepRunsDecodedInstruction_idle :
    ∃ (s : State) (p : Presented) (rest : List Presented) (i : Instr),
      nextMove s = .block ∧ s.inbox = p :: rest ∧ (p.fmt = .statFrame ∨ s.phase = .idle) ∧ decodeFor s.cfg.speedD3 p = .ok i :=
  ⟨{ State.reset with inbox := [encode (.setSpeed 3000)] }, _, _, .setSpeed 3000, rfl, rfl, .inr rfl, by decide⟩
theorem witness_StepRunsDecodedInstruction_busy :
    ∃ (s : State) (p : Presented) (rest : List Presented) (i : Instr),
      nextMove s = .block ∧ s.inbox = p :: rest ∧ (p.fmt = .statFrame ∨ s.phase = .idle) ∧ decodeFor s.cfg.speedD3 p = .ok i :=
  ⟨{ reading 0 [] none 0 with inbox := [encode (.frameStatus 1 5 0 0 0 2 0x56 0x78)], schedule := [.block, .reset] }, _, _,
    .frameStatus 1 5 0 0 0 2 0x56 0x78, rfl, rfl, .inl rfl, by decide⟩
theorem witness_StepRunsDecodedInstruction_unmatched :
    ∃ (s : State) (p : Presented) (rest : List Presented) (e : DecodeError),
      nextMove s = .block ∧ s.inbox = p :: rest ∧ (p.fmt = .statFrame ∨ s.phase = .idle) ∧
        decodeFor s.cfg.speedD3 p = .error e :=
  ⟨{ reading 0 [] none 0 with inbox := [⟨.statFrame, [0x00]⟩] }, _, _, .statFrameLength, rfl, rfl, .inl rfl, by decide⟩
theorem witness_StepRunsDecodedInstruction_phase :
    ∃ s : State, nextMove s = .block ∧ (∀ p ∈ s.inbox.head?, p.fmt ≠ .statFrame ∧ s.phase ≠ .idle) ∧
      s.inbox.length = 1 :=
  ⟨{ sendingAt .txWrite 3 true with inbox := [encode (.turnOff 0)], schedule := [.block, .reset] }, rfl,
    by simp [encode, encodeHostCmd, sendingAt], rfl⟩
theorem witness_StepRunsDecodedInstruction_other :
    ∃ (s : State) (m : Move) (rest : List Move), nextMove s = m ∧ m ≠ .block ∧ s.schedule = m :: rest :=
  ⟨{ State.reset with schedule := [.rxArrive 0x55] }, _, [], rfl, by simp [nextMove], rfl⟩
theorem witness_StepRunsDecodedInstruction_recurs :
    ∃ (s : State) (m : Move) (rest : List Move), s.schedule = [] ∧ s.beyond = .recurs m rest ∧ m ≠ .block :=
  ⟨{ State.reset with beyond := .recurs (.rxArrive 0x55) [.block] }, _, _, rfl, rfl, by decide⟩
theorem witness_StepRunsDecodedInstruction_free : ∃ s : State, s.schedule = [] ∧ s.beyond = .free :=
  ⟨{ State.reset with beyond := .free }, rfl, rfl⟩
/-- A turn that stands in front of other moves, in an environment that nothing constrains. -/
theorem witness_BlockMoves_scheduled :
    ∃ s : State, BlockMoves s ∧ s.phase = .txWrite ∧ s.idx.toNat < 9 ∧ s.schedule = [.block, .reset] ∧ s.beyond = .free :=
  ⟨{ sendingAt .txWrite 8 true with schedule := [.block, .reset], beyond := .free }, blockMoves_alone rfl rfl, rfl,
    by decide, rfl, rfl⟩
theorem witness_LineAndWaitPhases :
    (∃ s : State, BlockMoves s ∧ s.phase = .txAssert) ∧ (∃ s : State, BlockMoves s ∧ s.phase = .txSettle) ∧
    (∃ s : State, BlockMoves s ∧ s.phase = .txDrain) ∧ ∃ s : State, BlockMoves s ∧ s.phase = .txRelease :=
  ⟨⟨sendingAt .txAssert 0 false, blockMoves_alone rfl rfl, rfl⟩, ⟨sendingAt .txSettle 0 true, blockMoves_alone rfl rfl, rfl⟩,
    ⟨sendingAt .txDrain 9 true, blockMoves_alone rfl rfl, rfl⟩, ⟨sendingAt .txRelease 9 true, blockMoves_alone rfl rfl, rfl⟩⟩
theorem witness_LineAndWaitPhases_inv : ∃ s : State, BlockMoves s ∧ s.phase = .txAssert ∧ Inv s :=
  ⟨sendingAt .txAssert 0 false, blockMoves_alone rfl rfl, rfl, by
    constructor <;> first | decide | exact fun h => absurd h (by decide) | (intro; constructor <;> decide)⟩
theorem witness_WriteStepOffersOneByte_last :
    ∃ s : State, BlockMoves s ∧ s.phase = .txWrite ∧ s.idx.toNat < 9 ∧ s.idx.toNat + 1 = 9 :=
  ⟨sendingAt .txWrite 8 true, blockMoves_alone rfl rfl, rfl, by decide, by decide⟩
theorem witness_WriteStepOffersOneByte_earlier :
    ∃ s : State, BlockMoves s ∧ s.phase = .txWrite ∧ s.idx.toNat < 9 ∧ s.idx.toNat + 1 ≠ 9 :=
  ⟨sendingAt .txWrite 7 true, blockMoves_alone rfl rfl, rfl, by decide, by decide⟩
theorem witness_GuardStepCompletes :
    (∃ s : State, BlockMoves s ∧ s.phase = .txGuard ∧ s.txerr = true) ∧
    (∃ s : State, BlockMoves s ∧ s.phase = .txGuard ∧ s.txerr = false ∧ s.op = .turnOn) ∧
    (∃ s : State, BlockMoves s ∧ s.phase = .txGuard ∧ s.txerr = false ∧ s.op = .turnOff) ∧
    ∃ s : State, BlockMoves s ∧ s.phase = .txGuard ∧ s.txerr = false ∧ s.op = .setSpeed :=
  ⟨⟨guarding .turnOn true, blockMoves_alone rfl rfl, rfl, rfl⟩, ⟨guarding .turnOn false, blockMoves_alone rfl rfl, rfl, rfl, rfl⟩,
    ⟨guarding .turnOff false, blockMoves_alone rfl rfl, rfl, rfl, rfl⟩,
    ⟨guarding .setSpeed false, blockMoves_alone rfl rfl, rfl, rfl, rfl⟩⟩
theorem witness_SendEmitsFourteenEvents : ∃ s : State, Undisturbed s ∧ s.phase = .txAssert :=
  ⟨sendingAt .txAssert 0 false, undisturbed_alone rfl rfl rfl, rfl⟩
theorem witness_TurnOnOperation :
    ∃ (arg : Rpm) (s : State) (rest : List Presented),
      s.phase = .idle ∧ s.inbox = encode (.turnOn arg) :: rest ∧ Undisturbed { s with inbox := rest } ∧
      sendFails s = true :=
  ⟨0, { State.reset with inbox := [encode (.turnOn 0), encode (.turnOff 0)], txErrs := [false, false, false, true]
                         cfg := { Config.default with hasTxErr := true } }, _, rfl, rfl,
    by simp [Undisturbed, State.reset, encode, encodeHostCmd], by decide⟩
theorem witness_TurnOffOperation :
    ∃ (arg : Rpm) (s : State) (rest : List Presented),
      s.phase = .idle ∧ s.inbox = encode (.turnOff arg) :: rest ∧ Undisturbed { s with inbox := rest } ∧
      sendFails s = false ∧ s.run = true :=
  ⟨0, { State.reset with inbox := [encode (.turnOff 0)], run := true }, [], rfl, rfl, undisturbed_alone rfl rfl rfl,
    by simp [sendFails, State.reset, Config.default], rfl⟩
theorem witness_SetSpeedOperation :
    ∃ (rpm : Rpm) (s : State) (rest : List Presented),
      s.phase = .idle ∧ s.inbox = encode (.setSpeed rpm) :: rest ∧ Undisturbed { s with inbox := rest } :=
  ⟨39360, { State.reset with inbox := [encode (.setSpeed 39360)] }, [], rfl, rfl, undisturbed_alone rfl rfl rfl⟩
theorem witness_SetSpeedOperation_low :
    ∃ (rpm : Rpm) (s : State) (rest : List Presented),
      s.phase = .idle ∧ s.inbox = encode (.setSpeed rpm) :: rest ∧ Undisturbed { s with inbox := rest } ∧
      rpm.toNat = 59 ∧ s.cfg.speedD3 = 0x00 :=
  ⟨59, { State.reset with inbox := [encode (.setSpeed 59)] }, [], rfl, rfl, undisturbed_alone rfl rfl rfl, by decide, rfl⟩
theorem witness_DrainWaitIsCeiling : ∃ (c : Config) (m : Nat), c.wf ∧ 9 * c.perByteNum ≤ m * c.perByteDen :=
  ⟨{ Config.default with perByteNum := 10, perByteDen := 9 }, 10, by decide, by decide⟩
theorem witness_FlushDiscardsStaleBytes : ∃ s : State, Undisturbed s ∧ s.phase = .rxFlush ∧ s.rxFifo = [0x00, 0x55] :=
  ⟨{ State.reset with phase := .rxFlush, rxFifo := [0x00, 0x55] }, undisturbed_alone rfl rfl rfl, rfl, rfl⟩
theorem witness_FlushDiscardsStaleBytes_empty : ∃ s : State, BlockMoves s ∧ s.phase = .rxFlush ∧ s.rxFifo = [] :=
  ⟨{ State.reset with phase := .rxFlush }, blockMoves_alone rfl rfl, rfl, rfl⟩
theorem witness_ReadStepTakesOneByte_last :
    ∃ (s : State) (b : Byte) (rest : List Byte), BlockMoves s ∧ s.phase = .rxRead ∧ s.rxFifo = b :: rest ∧
      s.idx.toNat < 13 ∧ s.idx.toNat + 1 = 13 :=
  ⟨reading 12 [0xFF, 0x00] none 0, _, _, blockMoves_alone rfl rfl, rfl, rfl, by decide, by decide⟩
theorem witness_ReadStepTakesOneByte_earlier :
    ∃ (s : State) (b : Byte) (rest : List Byte), BlockMoves s ∧ s.phase = .rxRead ∧ s.rxFifo = b :: rest ∧
      s.idx.toNat < 13 ∧ s.idx.toNat + 1 ≠ 13 :=
  ⟨reading 11 [0xFF] none 0, _, _, blockMoves_alone rfl rfl, rfl, rfl, by decide, by decide⟩
theorem witness_ReadStepTakesOneByte_held :
    ∃ s : State, BlockMoves s ∧ s.phase = .rxRead ∧ s.rxFifo = [] ∧ s.cfg.rxTimeout = none :=
  ⟨reading 0 [] none 0, blockMoves_alone rfl rfl, rfl, rfl, rfl⟩
theorem witness_ThirteenReadsFillBuffer :
    ∃ (s : State) (frame : Vector Byte 13) (rest : List Byte),
      Undisturbed s ∧ s.phase = .rxRead ∧ s.idx = 0 ∧ s.rxFifo = frame.toList ++ rest ∧ rest = [0x00] :=
  ⟨reading 0 ((digits 1 5 0 0 0).toList ++ [0x00]) none 0, digits 1 5 0 0 0, [0x00], undisturbed_alone rfl rfl rfl, rfl, rfl,
    rfl, rfl⟩
theorem witness_DecodeStepChecksAndConverts_fails :
    ∃ s : State, BlockMoves s ∧ s.phase = .rxDecode ∧ s.cfg.rxCheckFixed = true ∧
      ¬ (s.rxbuf[0] = 0x00 ∧ s.rxbuf[1] = 0x55 ∧ s.rxbuf[8] = 0x01 ∧ s.rxbuf[9] = 0x00 ∧ s.rxbuf[12] = 0xFF) :=
  ⟨decoding true ((digits 1 5 0 0 0).set 12 0xFE), blockMoves_alone rfl rfl, rfl, rfl, by decide⟩
theorem witness_DecodeStepChecksAndConverts_passes :
    ∃ s : State, BlockMoves s ∧ s.phase = .rxDecode ∧ s.cfg.rxCheckFixed = true ∧
      s.rxbuf[0] = 0x00 ∧ s.rxbuf[1] = 0x55 ∧ s.rxbuf[8] = 0x01 ∧ s.rxbuf[9] = 0x00 ∧ s.rxbuf[12] = 0xFF :=
  ⟨decoding true (digits 255 255 255 255 255), blockMoves_alone rfl rfl, rfl, rfl, by decide⟩
theorem witness_DigitsReportHundredsOnly :
    ∃ s t : State, BlockMoves s ∧ s.phase = .rxDecode ∧ (s.cfg.rxCheckFixed = false ∨ fixedBytesOk s.rxbuf = true) ∧
      s.rxbuf[2].toNat ≤ 9 ∧ s.rxbuf[3].toNat ≤ 9 ∧ s.rxbuf[4].toNat ≤ 9 ∧ s.rxbuf[5].toNat ≤ 9 ∧
      s.rxbuf[6].toNat ≤ 9 ∧ step s = .next t :=
  ⟨decoding false (digits 9 9 9 9 9), _, blockMoves_alone rfl rfl, rfl, .inl rfl, by decide, by decide, by decide, by decide,
    by decide, rfl⟩
theorem witness_DigitsReportHundredsOnly_checked :
    ∃ s t : State, BlockMoves s ∧ s.phase = .rxDecode ∧ s.cfg.rxCheckFixed = true ∧ fixedBytesOk s.rxbuf = true ∧
      s.rxbuf[2].toNat ≤ 9 ∧ s.rxbuf[3].toNat ≤ 9 ∧ s.rxbuf[4].toNat ≤ 9 ∧ s.rxbuf[5].toNat ≤ 9 ∧
      s.rxbuf[6].toNat ≤ 9 ∧ step s = .next t :=
  ⟨decoding true (digits 0 9 9 9 9), _, blockMoves_alone rfl rfl, rfl, rfl, by decide, by decide, by decide, by decide,
    by decide, by decide, rfl⟩
theorem witness_IndicatorAndTrailerIgnored :
    ∃ (s t u : State) (d6 x a : Byte), BlockMoves s ∧ s.phase = .rxDecode ∧ step s = .next t ∧
      step { s with rxbuf := ((s.rxbuf.set 7 d6).set 10 x).set 11 a } = .next u ∧ d6 ≠ s.rxbuf[7] :=
  ⟨decoding true (digits 1 5 0 0 0), _, _, 0xFF, 0x00, 0x00, blockMoves_alone rfl rfl, rfl, rfl, rfl, by decide⟩
theorem witness_TimeoutEndsRead :
    ∃ (s : State) (limit : Nat), BlockMoves s ∧ s.phase = .rxRead ∧ s.rxFifo = [] ∧ s.cfg.rxTimeout = some limit ∧
      limit ≤ s.rxTimer :=
  ⟨reading 4 [] (some 100) 100, 100, blockMoves_alone rfl rfl, rfl, rfl, rfl, by decide⟩
theorem witness_TimeoutEndsRead_recorded :
    ∃ s t : State, step s = .next t ∧ t.faultLog = s.faultLog ++ [.responseTimeout] ∧ Inv s :=
  ⟨reading 12 [] (some 100) 100, _, rfl, by decide, reading_inv []⟩
theorem witness_SilentDriveHoldsForever :
    ∃ s : State, Undisturbed s ∧ s.phase = .rxRead ∧ s.rxFifo = [] ∧ s.cfg.rxTimeout = none :=
  ⟨reading 0 [] none 0, undisturbed_alone rfl rfl rfl, rfl, rfl, rfl⟩
theorem witness_EndlessStreamDrainsForever :
    ∃ (s : State) (b : Byte), s.schedule = [] ∧ s.beyond = .recurs (.rxArrive b) [.block] ∧
      (∀ p ∈ s.inbox.head?, p.fmt ≠ .statFrame) ∧ s.phase = .rxFlush ∧ s.cfg.rxTimeout = some 100 :=
  ⟨{ reading 0 [0x00] (some 100) 0 with phase := .rxFlush, beyond := .recurs (.rxArrive 0x55) [.block] }, _, rfl, rfl,
    by simp [reading, State.reset], rfl, rfl⟩
theorem witness_SilentDriveTimesOut :
    ∃ (s : State) (limit : Nat), Undisturbed s ∧ s.phase = .rxRead ∧ s.rxFifo = [] ∧ s.rxTimer = 0 ∧
      s.cfg.rxTimeout = some limit :=
  ⟨reading 0 [] (some 100) 0, 100, undisturbed_alone rfl rfl rfl, rfl, rfl, rfl, rfl⟩
/-- Two stale bytes, then the drive's frame. -/
theorem witness_ReportSpeedOperation :
    ∃ (arg : Rpm) (s : State) (rest : List Presented) (frame : Vector Byte 13),
      s.phase = .idle ∧ s.inbox = encode (.reportSpeed arg) :: rest ∧ (∀ p ∈ rest.head?, p.fmt ≠ .statFrame) ∧
      s.schedule = List.replicate (s.rxFifo.length + 2) .block ++ frame.toList.map .rxArrive ∧
      s.beyond = .recurs .block [] ∧ s.rxFifo = [0x00, 0x55] :=
  ⟨0, { State.reset with inbox := [encode (.reportSpeed 0)], rxFifo := [0x00, 0x55]
                         schedule := List.replicate 4 .block ++ (digits 1 5 0 0 0).toList.map .rxArrive },
    [], digits 1 5 0 0 0, rfl, rfl, by simp, rfl, rfl, rfl⟩
theorem witness_PhasesFollowTable :
    ∃ s t : State, BlockMoves s ∧ step s = .next t ∧ s.phase = .txWrite ∧ t.phase = .txDrain :=
  ⟨sendingAt .txWrite 8 true, _, blockMoves_alone rfl rfl, rfl, rfl, by decide⟩
theorem witness_PhasesFollowTable_other :
    ∃ s t : State, nextMove s ≠ .block ∧ step s = .next t ∧ s.phase = .txWrite ∧ nextMove s ≠ .reset :=
  ⟨{ sendingAt .txWrite 8 true with schedule := [.elapse 3] }, _, by decide, rfl, rfl, by decide⟩
theorem witness_PhasesFollowTable_reset :
    ∃ s t : State, nextMove s ≠ .block ∧ step s = .next t ∧ s.phase = .txWrite ∧ nextMove s = .reset :=
  ⟨{ sendingAt .txWrite 8 true with schedule := [.reset] }, _, by decide, rfl, rfl, rfl⟩
theorem witness_PhasesFollowTable_frameRow : ∃ (i : Instr) (s : State), i.format ≠ .hostCmd ∧ s.phase = .txWrite :=
  ⟨.frameStatus 1 5 0 0 0 2 0x56 0x78, sendingAt .txWrite 3 true, by decide, rfl⟩
theorem witness_PhasesFollowTable_leavesIdle :
    ∃ s t : State, nextMove s = .block ∧ ¬ BlockMoves s ∧ step s = .next t ∧ t.phase ≠ s.phase :=
  ⟨{ State.reset with inbox := [encode (.reportSpeed 0)] }, _, rfl, fun h => absurd (h.2 _ rfl) (by decide), rfl, by decide⟩
theorem witness_PhasesFollowTable_accepts : ∃ s : State, s.phase = .idle ∧ s.fault = 2 :=
  ⟨{ State.reset with fault := 2 }, rfl, rfl⟩
theorem witness_RunDecidesNothing_exec : ∃ (i : Instr) (s t : State), exec i s = .next t ∧ t.phase = .txAssert :=
  ⟨.setSpeed 60, State.reset, _, rfl, by decide⟩
theorem witness_RunDecidesNothing_phase :
    ∃ s t : State, phaseStep s = .next t ∧ s.phase = .txGuard ∧ s.txerr = false ∧ s.op = .turnOff :=
  ⟨guarding .turnOff false, _, rfl, rfl, rfl, rfl⟩
theorem witness_OnlyBuiltFramesAreSent :
    ∃ s t : State, step s = .next t ∧ t.txbuf ≠ s.txbuf ∧ s.phase ≠ .txAssert ∧ t.phase = .txAssert :=
  ⟨{ State.reset with inbox := [encode (.setSpeed 60)] }, _, rfl, by decide, by decide, by decide⟩
theorem witness_ResultsChangeOnlyWhenRead_read :
    ∃ s t : State, step s = .next t ∧ nextMove s ≠ .reset ∧ t.rxbuf ≠ s.rxbuf :=
  ⟨reading 12 [0xFF] none 0, _, rfl, by decide, by decide⟩
theorem witness_ResultsChangeOnlyWhenRead_decoded :
    ∃ s t : State, step s = .next t ∧ nextMove s ≠ .reset ∧ t.freqRaw ≠ s.freqRaw ∧ t.rpm ≠ s.rpm :=
  ⟨decoding true (digits 1 5 0 0 0), _, rfl, by decide, by decide, by decide⟩
theorem witness_ErrorLatchFollowsWrites_set :
    ∃ s t : State, step s = .next t ∧ s.txerr = false ∧ t.txerr = true :=
  ⟨{ sendingAt .txWrite 8 true with cfg := { Config.default with hasTxErr := true }, txErrs := [true] }, _, rfl, rfl,
    by decide⟩
theorem witness_ErrorLatchFollowsWrites_cleared :
    ∃ s t : State, step s = .next t ∧ s.txerr = true ∧ t.txerr = false ∧ s.phase = .idle ∧ t.phase = .rxFlush :=
  ⟨{ State.reset with txerr := true, inbox := [encode (.reportSpeed 0)] }, _, rfl, rfl, by decide, rfl, by decide⟩
theorem witness_ErrorLatchFollowsWrites_disabled :
    ∃ s t : State, step s = .next t ∧ Inv s ∧ s.cfg.hasTxErr = false :=
  ⟨_, _, rfl, sending_inv, rfl⟩
theorem witness_RunChangesOnlyByPowerCommands_on : ∃ s t : State, step s = .next t ∧ t.run ≠ s.run ∧ t.run = true :=
  ⟨guarding .turnOn false, _, rfl, by decide, by decide⟩
theorem witness_RunChangesOnlyByPowerCommands_off : ∃ s t : State, step s = .next t ∧ t.run ≠ s.run ∧ t.run = false :=
  ⟨{ guarding .turnOff false with run := true }, _, rfl, by decide, by decide⟩
theorem witness_RunChangesOnlyByPowerCommands_reset :
    ∃ s t : State, step s = .next t ∧ t.run ≠ s.run ∧ s.phase = .idle :=
  ⟨{ State.reset with run := true, schedule := [.reset] }, _, rfl, by decide, rfl⟩
theorem witness_LineChangesOnlyByItsEvents :
    (∃ s t : State, step s = .next t ∧ t.dir ≠ s.dir ∧ t.dir = true) ∧
    (∃ s t : State, step s = .next t ∧ t.dir ≠ s.dir ∧ s.phase = .txRelease) ∧
    ∃ s t : State, step s = .next t ∧ t.dir ≠ s.dir ∧ s.phase = .txWrite :=
  ⟨⟨sendingAt .txAssert 0 false, _, rfl, by decide, by decide⟩, ⟨sendingAt .txRelease 9 true, _, rfl, by decide, rfl⟩,
    ⟨{ sendingAt .txWrite 3 true with schedule := [.reset] }, _, rfl, by decide, rfl⟩⟩
theorem witness_FreqCmdChangesOnlyBySpeedFrames :
    (∃ s t : State, step s = .next t ∧ t.freqCmd ≠ s.freqCmd ∧ t.phase = .txAssert) ∧
    (∃ s t : State, step s = .next t ∧ t.freqCmd ≠ s.freqCmd ∧ t.freqCmd = 0x1388 ∧ t.phase = .idle) ∧
    ∃ s t : State, step s = .next t ∧ t.freqCmd ≠ s.freqCmd ∧ s.schedule = [.reset] :=
  ⟨⟨{ State.reset with inbox := [encode (.setSpeed 60)] }, _, rfl, by decide, by decide⟩,
    ⟨{ State.reset with inbox := [encode (.frameSpeed 0x13 0x88 0xCF 0xC0)] }, _, rfl, by decide, by decide, by decide⟩,
    ⟨{ State.reset with freqCmd := 0x1388, schedule := [.reset] }, _, rfl, by decide, rfl⟩⟩
theorem witness_ParametersNeverChange :
    ∃ s t : State, step s = .next t ∧ s.cfg ≠ Config.default ∧ s.schedule = [.reset] :=
  ⟨{ guarding .turnOn true with schedule := [.reset] }, _, rfl, by decide, rfl⟩
theorem witness_TraceOnlyGrows : ∃ s t : State, step s = .next t ∧ t.trace.length = s.trace.length + 2 :=
  ⟨{ State.reset with phase := .rxFlush, rxFifo := [0xFF] }, _, rfl, by decide⟩
theorem witness_BytesMoveOnlyInTheirPhases_written :
    ∃ s t : State, Inv s ∧ step s = .next t ∧ writtenBytes t.trace ≠ writtenBytes s.trace :=
  ⟨_, _, sending_inv, rfl, by decide⟩
theorem witness_BytesMoveOnlyInTheirPhases_read :
    ∃ (s t : State) (b : Byte), Inv s ∧ step s = .next t ∧ t.trace = s.trace ++ [.rxRead b] :=
  ⟨_, _, 0xFF, reading_inv [0xFF], rfl, by decide⟩
theorem witness_BytesMoveOnlyInTheirPhases_flushed :
    ∃ (s t : State) (b : Byte), Inv s ∧ step s = .next t ∧ t.trace = s.trace ++ [.rxReadable true, .rxRead b] :=
  ⟨_, _, 0xFF, flushing_inv, rfl, by decide⟩
theorem witness_BytesMoveOnlyInTheirPhases_taken :
    ∃ s t : State, Inv s ∧ step s = .next t ∧ nextMove s = .block ∧ t.rxFifo.length < s.rxFifo.length ∧
      readBytes t.trace ≠ readBytes s.trace :=
  ⟨_, _, flushing_inv, rfl, rfl, by decide, by decide⟩
theorem witness_FaultEntryIsPrecise :
    (∃ s t : State, Inv s ∧ step s = .next t ∧ t.faultLog ≠ s.faultLog ∧ t.fault = 2) ∧
    (∃ s t : State, Inv s ∧ step s = .next t ∧ t.faultLog ≠ s.faultLog ∧ t.fault = 3) ∧
    ∃ s t : State, Inv s ∧ step s = .next t ∧ t.faultLog ≠ s.faultLog ∧ t.fault = 1 :=
  ⟨⟨_, _, guarding_inv, rfl, by decide, by decide⟩, ⟨_, _, reading_inv [], rfl, by decide, by decide⟩,
    ⟨_, _, decoding_inv, rfl, by decide, by decide⟩⟩
theorem witness_FaultKeptUntilAcceptance_cleared :
    ∃ s t : State, s.phase = .idle ∧ step s = .next t ∧ t.fault ≠ s.fault ∧ t.phase ≠ .idle :=
  ⟨{ State.reset with fault := 3, inbox := [encode (.setSpeed 60)] }, _, rfl, rfl, by decide, by decide⟩
theorem witness_FaultKeptUntilAcceptance_reset :
    ∃ s t : State, s.phase = .idle ∧ step s = .next t ∧ t.fault ≠ s.fault ∧ t.phase = .idle :=
  ⟨{ State.reset with fault := 3, schedule := [.reset] }, _, rfl, rfl, by decide, by decide⟩
theorem witness_EnvironmentTouchesNoRegister :
    ∃ (m : Move) (s : State), m ≠ .reset ∧ (environment m s).rxTimer ≠ s.rxTimer :=
  ⟨.elapse 5, reading 0 [] (some 100) 0, by decide, by decide⟩
theorem witness_HostReadsRegisters_idle :
    ∃ (r : HostReg) (s : State), nextMove s = .hostRead r ∧ s.phase = .idle :=
  ⟨.rxbuf 12, { State.reset with schedule := [.hostRead (.rxbuf 12)] }, rfl, rfl⟩
theorem witness_HostReadsRegisters_busy :
    ∃ (r : HostReg) (s : State), nextMove s = .hostRead r ∧ r = .busy ∧ s.phase ≠ .idle :=
  ⟨.busy, { sendingAt .txWrite 3 true with schedule := [.hostRead .busy] }, rfl, rfl, by decide⟩

end Sys2Proof.Machine
end

section
/-! The environment's moves that branch, each with its frame, and from them the frame of every move but reset
(00_scope.md R11, R12). -/

namespace Sys2Proof.Machine

/-- Specified or free, a host read leaves its mark in the host's record and the free-value counter only (44_controller_ops.md
R170, R179). -/
theorem hostRead_frame (r : HostReg) (s : State) :
    hostRead r s = { s with hostLog := (hostRead r s).hostLog, freeCtr := (hostRead r s).freeCtr } := by
  unfold hostRead
  split <;> rfl

/-- Shifting out moves a byte between the transport and the wire, if there is one (10_state.md R39). -/
theorem shiftOut_frame (s : State) :
    shiftOut s = { s with txPort := (shiftOut s).txPort, wire := (shiftOut s).wire } := by
  unfold shiftOut
  split <;> rfl

/-- Measured or not, passing time reaches no further than the timer of RX_READ (60_exceptions.md R202). -/
theorem elapse_frame (ms : Nat) (s : State) : elapse ms s = { s with rxTimer := (elapse ms s).rxTimer } := by
  unfold elapse
  split <;> rfl

/-- Settles O59, move by move: a move without a branch writes one listed field outright; a host read, a shift and the
passing of time have their frames above. -/
theorem environmentTouchesNoRegister : Obligations.EnvironmentTouchesNoRegister := by
  intro m s hm
  cases m with
  | reset => exact absurd rfl hm
  | hostRead r => rw [environment, hostRead_frame]
  | shiftOut => rw [environment, shiftOut_frame]
  | elapse ms => rw [environment, elapse_frame]
  | block | present | hostWithdraw | rxArrive | rxDrop | txDrop => rfl

end Sys2Proof.Machine
end

section
/-! What one step can do to the block's registers, said once: it keeps them all, resets them, takes a word while idle, or
runs its phase. The rules of 10_state.md about single registers and the invariant follow from this split. -/

namespace Sys2Proof.Machine

/-! ### Steps that keep the registers -/

/-- From `s` to `t` the block itself does nothing: every register is kept but the timer of RX_READ, and so is the trace; the
transport sends or loses bytes and gains none. -/
structure RegistersKept (s t : State) : Prop where
  frame : t = { s with
    rxTimer := t.rxTimer, rxFifo := t.rxFifo, txPort := t.txPort, wire := t.wire, inbox := t.inbox, hostLog := t.hostLog
    schedule := t.schedule, freeCtr := t.freeCtr }
  transport : (t.wire ++ t.txPort).Sublist (s.wire ++ s.txPort)

theorem RegistersKept.run {s t : State} (h : RegistersKept s t) : t.run = s.run := by rw [h.frame]
theorem RegistersKept.freqCmd {s t : State} (h : RegistersKept s t) : t.freqCmd = s.freqCmd := by rw [h.frame]
theorem RegistersKept.rxbuf {s t : State} (h : RegistersKept s t) : t.rxbuf = s.rxbuf := by rw [h.frame]
theorem RegistersKept.freqRaw {s t : State} (h : RegistersKept s t) : t.freqRaw = s.freqRaw := by rw [h.frame]
theorem RegistersKept.rpm {s t : State} (h : RegistersKept s t) : t.rpm = s.rpm := by rw [h.frame]
theorem RegistersKept.dir {s t : State} (h : RegistersKept s t) : t.dir = s.dir := by rw [h.frame]
theorem RegistersKept.phase {s t : State} (h : RegistersKept s t) : t.phase = s.phase := by rw [h.frame]
theorem RegistersKept.txerr {s t : State} (h : RegistersKept s t) : t.txerr = s.txerr := by rw [h.frame]
theorem RegistersKept.cfg {s t : State} (h : RegistersKept s t) : t.cfg = s.cfg := by rw [h.frame]

theorem RegistersKept.trans {s t u : State} (h : RegistersKept s t) (h' : RegistersKept t u) : RegistersKept s u where
  frame := h'.frame.trans (by rw [h.frame])
  transport := h'.transport.trans h.transport

/-- Shifting out keeps the order of the bytes and loses none (10_state.md R39). -/
theorem shiftOut_transport (s : State) : (shiftOut s).wire ++ (shiftOut s).txPort = s.wire ++ s.txPort := by
  cases h : s.txPort <;> simp [shiftOut, h]

/-- No move of the environment puts a byte on the wire that the transport was not given (10_state.md R39). -/
theorem environment_transport (m : Move) (s : State) :
    ((environment m s).wire ++ (environment m s).txPort).Sublist (s.wire ++ s.txPort) := by
  cases m with
  | txDrop i => exact (List.Sublist.refl _).append (List.eraseIdx_sublist _ _)
  | shiftOut => rw [environment, shiftOut_transport]
  | hostRead r => rw [environment, hostRead_frame]
  | elapse ms => rw [environment, elapse_frame]
  | block | present | hostWithdraw | rxArrive | rxDrop | reset => exact List.Sublist.refl _

theorem registersKept_environment {m : Move} (hm : m ≠ .reset) (s : State) : RegistersKept s (environment m s) where
  frame := by rw [environmentTouchesNoRegister m s hm]
  transport := environment_transport m s

theorem registersKept_moveUsed (s : State) : RegistersKept s (moveUsed s) where
  frame := by rw [moveUsed_eq]
  transport := by simp

/-- Taking a presented word off the inbox on the block's turn. -/
theorem registersKept_take (s : State) (rest : List Presented) : RegistersKept s { moveUsed s with inbox := rest } :=
  (registersKept_moveUsed s).trans ⟨rfl, List.Sublist.refl _⟩

theorem registersKept_unmatched (p : Presented) (s : State) : RegistersKept s (unmatched p s) := by
  rw [unmatched_eq]; exact ⟨rfl, List.Sublist.refl _⟩

/-- A status frame reaches the receive FIFO and no register (log 7). -/
theorem registersKept_statFrame {i : Instr} (hi : i.format = .statFrame) (s : State) :
    RegistersKept s (idleEffect i s) := by
  cases i with
  | frameStatus => exact ⟨rfl, List.Sublist.refl _⟩
  | turnOn | turnOff | setSpeed | reportSpeed | framePowerOn | framePowerOff | frameSpeed => cases hi

/-! ### Words taken by an idle block -/

/-- What taking a word leaves alone, whatever the word. -/
theorem idleEffect_frame (i : Instr) (s : State) :
    idleEffect i s = { s with
      op := (idleEffect i s).op, arg := (idleEffect i s).arg, fault := (idleEffect i s).fault
      txerr := (idleEffect i s).txerr, phase := (idleEffect i s).phase, txbuf := (idleEffect i s).txbuf
      freqCmd := (idleEffect i s).freqCmd, rxFifo := (idleEffect i s).rxFifo } := by
  cases i <;> rfl

@[simp] theorem idleEffect_run (i : Instr) (s : State) : (idleEffect i s).run = s.run := by rw [idleEffect_frame]
@[simp] theorem idleEffect_rxbuf (i : Instr) (s : State) : (idleEffect i s).rxbuf = s.rxbuf := by rw [idleEffect_frame]
@[simp] theorem idleEffect_freqRaw (i : Instr) (s : State) : (idleEffect i s).freqRaw = s.freqRaw := by rw [idleEffect_frame]
@[simp] theorem idleEffect_rpm (i : Instr) (s : State) : (idleEffect i s).rpm = s.rpm := by rw [idleEffect_frame]
@[simp] theorem idleEffect_dir (i : Instr) (s : State) : (idleEffect i s).dir = s.dir := by rw [idleEffect_frame]
@[simp] theorem idleEffect_cfg (i : Instr) (s : State) : (idleEffect i s).cfg = s.cfg := by rw [idleEffect_frame]

/-- A row of the host is one of the four operations (30_encoding.md R71). -/
theorem exists_ofHostOp {i : Instr} (h : i.format = .hostCmd) : ∃ o arg, i = .ofHostOp o arg := by
  cases i with
  | turnOn arg => exact ⟨.turnOn, arg, rfl⟩
  | turnOff arg => exact ⟨.turnOff, arg, rfl⟩
  | setSpeed rpm => exact ⟨.setSpeed, rpm, rfl⟩
  | reportSpeed arg => exact ⟨.reportSpeed, arg, rfl⟩
  | framePowerOn | framePowerOff | frameSpeed | frameStatus => cases h

/-- Where acceptance goes (10_state.md R35), with FAULT and TXERR cleared (44_controller_ops.md R171). -/
theorem idleEffect_ofHostOp (o : HostOp) (arg : Rpm) (s : State) :
    (idleEffect (.ofHostOp o arg) s).phase = (if o = .reportSpeed then .rxFlush else .txAssert) ∧
      (idleEffect (.ofHostOp o arg) s).fault = 0 ∧ (idleEffect (.ofHostOp o arg) s).txerr = false := by
  cases o <;> exact ⟨rfl, rfl, rfl⟩

/-- A frame row runs the frame builder or reaches the FIFO, and starts nothing (log 6, log 7). -/
theorem idleEffect_frameRow {i : Instr} (hi : i.format ≠ .hostCmd) (s : State) :
    idleEffect i s = { s with
      txbuf := (idleEffect i s).txbuf, freqCmd := (idleEffect i s).freqCmd, rxFifo := (idleEffect i s).rxFifo } := by
  cases i with
  | turnOn | turnOff | setSpeed | reportSpeed => exact absurd rfl hi
  | framePowerOn | framePowerOff | frameSpeed | frameStatus => rfl

theorem idleEffect_phase_frameRow {i : Instr} (hi : i.format ≠ .hostCmd) (s : State) :
    (idleEffect i s).phase = s.phase := by
  rw [idleEffect_frameRow hi]

/-- The words that write FREQ_CMD: SET_SPEED, and FRAME_SPEED (log 6). -/
theorem idleEffect_freqCmd {i : Instr} {s : State} (h : (idleEffect i s).freqCmd ≠ s.freqCmd) :
    (idleEffect i s).txbuf = speedFrame s.cfg.speedD3 (idleEffect i s).freqCmd ∧
      ((∃ rpm, i = .setSpeed rpm ∧ (idleEffect i s).freqCmd = freq16 rpm) ∨
        ∃ d1 d2 x a, i = .frameSpeed d1 d2 x a ∧ (idleEffect i s).freqCmd = joinBytes d1 d2) := by
  cases i with
  | setSpeed rpm => exact ⟨rfl, .inl ⟨rpm, rfl, rfl⟩⟩
  | frameSpeed d1 d2 x a => exact ⟨rfl, .inr ⟨d1, d2, x, a, rfl, rfl⟩⟩
  | turnOn | turnOff | reportSpeed | framePowerOn | framePowerOff | frameStatus => exact absurd rfl h

/-! ### The step -/

/-- A word on the block's turn either leaves the registers or is a row an idle block takes: a word is taken while the block is
busy only when it is a status frame, so none is ever put back. -/
theorem exec_taken {s t : State} {p : Presented} {rest : List Presented} {i : Instr} (ht : takes p s = true)
    (hd : decodeFor s.cfg.speedD3 p = .ok i) (h : exec i { moveUsed s with inbox := rest } = .next t) :
    RegistersKept s t ∨
      s.phase = .idle ∧ i.format ≠ .statFrame ∧ t = idleEffect i { moveUsed s with inbox := rest } := by
  by_cases hf : i.format = .statFrame
  · rw [exec_eq, if_pos (.inr hf)] at h
    injection h with h
    exact .inl (h ▸ (registersKept_take s rest).trans (registersKept_statFrame hf _))
  · have hp : s.phase = .idle := by
      rw [takes_eq_true, ← decodeFor_format hd] at ht
      exact ht.resolve_left hf
    rw [exec_eq, if_pos (.inl (by simpa using hp))] at h
    injection h with h
    exact .inr ⟨hp, hf, h.symm⟩

/-- Everything a step can do to the registers when it answers a next state: reset; nothing; the effect of the first presented
word on an idle block; the step of the phase. -/
theorem step_effect {s t : State} (h : step s = .next t) :
    (nextMove s = .reset ∧ t = resetBlock (moveUsed s)) ∨
    (nextMove s ≠ .reset ∧ RegistersKept s t) ∨
    (nextMove s = .block ∧ s.phase = .idle ∧ ∃ p rest i, s.inbox = p :: rest ∧ decodeFor s.cfg.speedD3 p = .ok i ∧
      i.format ≠ .statFrame ∧ t = idleEffect i { moveUsed s with inbox := rest }) ∨
    (BlockMoves s ∧ phaseStep (moveUsed s) = .next t) := by
  obtain ⟨hm, rfl⟩ | ⟨hm, p, rest, i, hi, ht, hd, he⟩ | ⟨hm, p, rest, e, hi, ht, hd, rfl⟩ | hb := step_cases h
  · by_cases hr : nextMove s = .reset
    · exact .inl ⟨hr, by rw [hr]; rfl⟩
    · exact .inr (.inl ⟨hr, (registersKept_moveUsed s).trans (registersKept_environment hr _)⟩)
  · obtain hk | ⟨hp, hf, rfl⟩ := exec_taken ht hd he
    · exact .inr (.inl ⟨by simp [hm], hk⟩)
    · exact .inr (.inr (.inl ⟨hm, hp, p, rest, i, hi, hd, hf, rfl⟩))
  · exact .inr (.inl ⟨by simp [hm], (registersKept_take s rest).trans (registersKept_unmatched p _)⟩)
  · exact .inr (.inr (.inr hb))

end Sys2Proof.Machine
end

section
/-! What the step of a phase writes, register by register (10_state.md R35; 42_tx_sequencer.md R126 to R133;
43_rx_parser.md R146 to R155). -/

namespace Sys2Proof.Machine

/-- The condition under which the step of a phase raises a fault (60_exceptions.md R191 to R193). -/
inductive RaisedBy (s : State) : FaultKind → Prop where
  | transport (hp : s.phase = .txGuard) (he : s.txerr = true) : RaisedBy s .transportError
  | timeout (hp : s.phase = .rxRead) (hf : s.rxFifo = []) (hl : s.cfg.rxTimeout.isSome = true) :
    RaisedBy s .responseTimeout
  | framing (hp : s.phase = .rxDecode) (hc : s.cfg.rxCheckFixed = true) (hb : fixedBytesOk s.rxbuf = false) :
    RaisedBy s .protocolFramingError

/-- The registers after the step of a phase from `s` to `t`; what no phase writes is in `phaseStep_frame`. The defaults say
that a register is kept, so that a phase gives only the fields of what it writes. -/
structure PhaseEffect (s t : State) : Prop where
  phase : t.phase = tablePhase s := by simp [tablePhase, *]
  run : t.run = s.run ∨ (s.phase = .txGuard ∧ s.txerr = false ∧
    ((s.op = .turnOn ∧ t.run = true) ∨ (s.op = .turnOff ∧ t.run = false))) := by simp
  dir : (t.dir = s.dir ∧ s.phase ≠ .txAssert ∧ s.phase ≠ .txRelease) ∨
    (s.phase = .txAssert ∧ t.dir = true ∧ t.trace = s.trace ++ [.dirAssert]) ∨
    (s.phase = .txRelease ∧ t.dir = false ∧ t.trace = s.trace ++ [.dirDeassert]) := by simp [*]
  txerr : t.txerr = (s.txerr || (s.phase == .txWrite && s.cfg.hasTxErr && writeError s)) := by simp [*]
  /-- IDX is an index of TXBUF when a byte is due (10_state.md R34). -/
  txIndex : t.phase = .txWrite → t.idx.toNat < 9 := by simp [*]
  /-- IDX is an index of RXBUF when a byte is due (R34); held on an empty FIFO it stays. -/
  rxIndex : t.phase = .rxRead → t.idx.toNat < 13 ∨ (s.phase = .rxRead ∧ t.idx = s.idx) := by simp [*]
  rxbuf : t.rxbuf = s.rxbuf ∨ (s.phase = .rxRead ∧
    ∃ b rest, s.rxFifo = b :: rest ∧ ∃ h : s.idx.toNat < 13, t.rxbuf = s.rxbuf.set s.idx.toNat b) := by simp
  results : (t.freqRaw = s.freqRaw ∧ t.rpm = s.rpm) ∨ (s.phase = .rxDecode ∧ t.faultLog = s.faultLog ∧
    t.fault = s.fault ∧ t.freqRaw = decodeFreq s.rxbuf ∧ t.rpm = speedOf (decodeFreq s.rxbuf)) := by simp
  fault : (t.fault = s.fault ∧ t.faultLog = s.faultLog) ∨
    ∃ k, RaisedBy s k ∧ t.phase = .idle ∧ t.fault = k.code ∧ t.faultLog = s.faultLog ++ [k] := by simp
  /-- The bytes handed to the transport are the bytes written. -/
  written : ∃ bs, t.txPort = s.txPort ++ bs ∧ writtenBytes t.trace = writtenBytes s.trace ++ bs := by simp [writtenBytes]

/-- Short of its last byte TXBUF has a next one. -/
theorem idx_succ_lt_nine (i : BitVec 4) (h : i.toNat < 9) (hn : i + 1 ≠ 9) : (i + 1).toNat < 9 := by
  revert i; decide

/-- Short of its last byte RXBUF has a next one. -/
theorem idx_succ_lt_thirteen (i : BitVec 4) (h : i.toNat < 13) (hn : i + 1 ≠ 13) : (i + 1).toNat < 13 := by
  revert i; decide

/-- TX_WRITE (42_tx_sequencer.md R128): the byte at IDX, its error bit, and the next index or the next phase. -/
theorem txWrite_effect {s : State} (hp : s.phase = .txWrite) (hi : s.idx.toNat < 9) :
    PhaseEffect s (nextTxByte (txWrite s.txbuf[s.idx.toNat] s)) := by
  rw [nextTxByte_eq, txWrite_idx]
  exact {
    phase := by simp only [tablePhase, hp, txWrite_phase, idx_succ_eq_nine]
    txIndex := fun h => idx_succ_lt_nine s.idx hi fun hl => nomatch (if_pos hl).symm.trans h
    rxIndex := fun h => by split at h <;> simp [hp] at h
    written := ⟨[s.txbuf[s.idx.toNat]], by simp [writtenBytes]⟩ }

/-- RX_READ on the oldest byte of the FIFO (43_rx_parser.md R148). -/
theorem rxRead_effect {s : State} {b : Byte} {rest : List Byte} (hp : s.phase = .rxRead) (hf : s.rxFifo = b :: rest)
    (hi : s.idx.toNat < 13) :
    PhaseEffect s (nextRxByte { rxRead b rest s with rxbuf := s.rxbuf.set s.idx.toNat b }) := by
  rw [nextRxByte_eq]
  exact {
    phase := by simp only [tablePhase, hp, hf, rxRead_idx, rxRead_phase, idx_succ_eq_thirteen, reduceCtorEq, if_false]
    txIndex := fun h => by split at h <;> simp [hp] at h
    rxIndex := fun h => .inl (idx_succ_lt_thirteen s.idx hi fun hl => nomatch (if_pos hl).symm.trans h)
    rxbuf := .inr ⟨hp, b, rest, hf, hi, rfl⟩ }

/-- Completion (42_tx_sequencer.md R133). -/
theorem txGuard_effect {s : State} (hp : s.phase = .txGuard) : PhaseEffect s (completeSend (delay Config.tGuard s)) := by
  obtain ⟨he, e⟩ | ⟨he, ho, e⟩ | ⟨he, ho, e⟩ | ⟨he, -, e⟩ := completeSend_cases (delay Config.tGuard s) <;> rw [e]
  · exact { fault := .inr ⟨_, .transport hp he, rfl, rfl, rfl⟩ }
  · exact { run := .inr ⟨hp, he, .inl ⟨ho, rfl⟩⟩ }
  · exact { run := .inr ⟨hp, he, .inr ⟨ho, rfl⟩⟩ }
  · exact {}

/-- RX_READ on an empty FIFO (43_rx_parser.md R148, R149). -/
theorem awaitByte_effect {s : State} (hp : s.phase = .rxRead) (hf : s.rxFifo = []) : PhaseEffect s (awaitByte s) := by
  obtain ⟨hl, e⟩ | ⟨limit, hl, ht, e⟩ | ⟨limit, hl, ht, e⟩ := awaitByte_cases s <;> rw [e]
  · exact { phase := by simp [tablePhase, hp, hf, hl, timedOut] }
  · exact { phase := by simp [tablePhase, hp, hf, hl, timedOut, ht] }
  · exact { 
      phase := by simp [tablePhase, hp, hf, hl, timedOut, ht]
      fault := .inr ⟨_, .timeout hp hf (by simp [hl]), rfl, rfl, rfl⟩ }

/-- Phase by phase, in the order of `phaseStep_cases`. -/
theorem phaseStep_effect {s t : State} (h : phaseStep s = .next t) : PhaseEffect s t := by
  rcases phaseStep_cases h with ⟨hp, rfl⟩ | ⟨hp, rfl⟩ | ⟨hp, rfl⟩ | ⟨hp, hi, rfl⟩ | ⟨hp, rfl⟩ | ⟨hp, rfl⟩ | ⟨hp, rfl⟩ |
    ⟨hp, b, rest, hf, rfl⟩ | ⟨hp, hf, rfl⟩ | ⟨hp, b, rest, hf, hi, rfl⟩ | ⟨hp, hf, rfl⟩ | ⟨hp, hc, hb, rfl⟩ | ⟨hp, hc, rfl⟩
  · exact {}
  · exact { dir := .inr (.inl ⟨hp, rfl, rfl⟩) }
  · exact {}
  · exact txWrite_effect hp hi
  · exact {}
  · exact { dir := .inr (.inr ⟨hp, rfl, rfl⟩) }
  · exact txGuard_effect hp
  · exact {}
  · exact {}
  · exact rxRead_effect hp hf hi
  · exact awaitByte_effect hp hf
  · exact { fault := .inr ⟨_, .framing hp hc hb, rfl, rfl, rfl⟩ }
  · exact { results := .inr ⟨hp, rfl, rfl, rfl, rfl⟩ }

end Sys2Proof.Machine
end

section
/-! The invariant is kept by every step, whoever moves: kind of step by kind of step, as `step_effect` splits them. -/

namespace Sys2Proof.Machine

/-! ### Steps that keep the registers, and reset -/

theorem RegistersKept.inv {s t : State} (h : RegistersKept s t) (hi : Inv s) : Inv t := by
  rw [h.frame]
  exact { hi with wireOrder := h.transport.trans hi.wireOrder }

theorem moveUsed_inv {s : State} (hi : Inv s) : Inv (moveUsed s) := (registersKept_moveUsed s).inv hi

/-! ### FAULT and its record -/

/-- The clauses of the invariant on FAULT and the record of faults: every code has the parameter it needs. -/
structure FaultOk (c : Config) (fault : BitVec 3) (log : List FaultKind) : Prop where
  framing : fault = 1 → c.rxCheckFixed = true
  transport : fault = 2 → c.hasTxErr = true
  timeout : fault = 3 → c.rxTimeout.isSome = true
  code : fault.toNat ≤ 3
  record : FaultKind.checksumInconsistency ∉ log

theorem Inv.faultOk {s : State} (hi : Inv s) : FaultOk s.cfg s.fault s.faultLog :=
  ⟨hi.framingFault, hi.transportFault, hi.timeoutFault, hi.faultCode, hi.faultRecord⟩

/-- FAULT = 0 needs no parameter (60_exceptions.md R197). -/
theorem FaultOk.cleared {c : Config} {fault : BitVec 3} {log : List FaultKind} (h : FaultOk c fault log) :
    FaultOk c 0 log :=
  ⟨nofun, nofun, nofun, by decide, h.record⟩

/-- A fault is raised only where its parameter allows it (60_exceptions.md R191 to R193). -/
theorem RaisedBy.faultOk {s : State} {k : FaultKind} (hk : RaisedBy s k) (hi : Inv s) :
    FaultOk s.cfg k.code (s.faultLog ++ [k]) := by
  have hlog := hi.faultRecord
  cases hk with
  | transport hp he =>
    have hc : s.cfg.hasTxErr = true := by
      by_contra hc
      simp [hi.noTxErr (by simpa using hc)] at he
    exact ⟨nofun, fun _ => hc, nofun, by decide, by simp [hlog]⟩
  | timeout hp hf hl => exact ⟨nofun, nofun, fun _ => hl, by decide, by simp [hlog]⟩
  | framing hp hc hb => exact ⟨fun _ => hc, nofun, nofun, by decide, by simp [hlog]⟩

/-! ### Reset and acceptance -/

theorem resetBlock_inv {s : State} (hi : Inv s) : Inv (resetBlock s) :=
  have hf := hi.faultOk.cleared
  { line := rfl, txIndex := nofun, rxIndex := nofun, frame := nofun, txOp := nofun, rxOp := nofun
    faultWhileBusy := fun _ => rfl, framingFault := hf.framing, transportFault := hf.transport
    timeoutFault := hf.timeout, faultCode := hf.code, faultRecord := hf.record
    noTxErr := fun _ => rfl, wireOrder := hi.wireOrder }

/-- A frame with its trailer computed from its own payload is one FB builds (41_frame_builder.md R116). -/
theorem frameOk_commandFrame (d1 d2 d3 : Byte) : FrameOk (commandFrame d1 d2 d3) := ⟨rfl, rfl, rfl, rfl, rfl⟩

/-- A `send` starts on a built frame, with FAULT and TXERR cleared (44_controller_ops.md R171, R173 to R175). -/
theorem Inv.sendStarted {s : State} (hi : Inv s) (hp : s.phase = .idle) {o : HostOp} (ho : o ≠ .reportSpeed) (arg : Rpm)
    {f : Vector Byte 9} (hf : FrameOk f) (freq : Half) :
    Inv { accept o arg s with txbuf := f, freqCmd := freq, phase := .txAssert } :=
  have hk := hi.faultOk.cleared
  { line := by simp [hi.line, hp, Phase.lineAsserted]
    txIndex := nofun, rxIndex := nofun, frame := fun _ => hf, txOp := fun _ => ho, rxOp := nofun
    faultWhileBusy := fun _ => rfl, framingFault := hk.framing, transportFault := hk.transport
    timeoutFault := hk.timeout, faultCode := hk.code, faultRecord := hk.record
    noTxErr := fun _ => rfl, wireOrder := hi.wireOrder }

/-- `read_status` starts with FAULT and TXERR cleared (44_controller_ops.md R171, R176). -/
theorem Inv.readStarted {s : State} (hi : Inv s) (hp : s.phase = .idle) (arg : Rpm) :
    Inv (goTo .rxFlush (accept .reportSpeed arg s)) :=
  have hk := hi.faultOk.cleared
  { line := by simp [hi.line, hp, Phase.lineAsserted]
    txIndex := nofun, rxIndex := nofun, frame := nofun, txOp := nofun, rxOp := fun _ => rfl
    faultWhileBusy := fun _ => rfl, framingFault := hk.framing, transportFault := hk.transport
    timeoutFault := hk.timeout, faultCode := hk.code, faultRecord := hk.record
    noTxErr := fun _ => rfl, wireOrder := hi.wireOrder }

/-- An idle block may build whatever it likes: TXBUF and FREQ_CMD are free until a `send` starts (log 6). -/
theorem Inv.built {s : State} (hi : Inv s) (hp : s.phase = .idle) (f : Vector Byte 9) (freq : Half) (fifo : List Byte) :
    Inv { s with txbuf := f, freqCmd := freq, rxFifo := fifo } :=
  { hi with frame := fun h => by simp [hp, Phase.transmitting] at h }

theorem idleEffect_inv {s : State} (hi : Inv s) (hp : s.phase = .idle) (i : Instr) : Inv (idleEffect i s) := by
  cases i with
  | turnOn arg => exact hi.sendStarted (o := .turnOn) hp nofun arg (frameOk_commandFrame _ _ _) s.freqCmd
  | turnOff arg => exact hi.sendStarted (o := .turnOff) hp nofun arg (frameOk_commandFrame _ _ _) s.freqCmd
  | setSpeed rpm => exact hi.sendStarted (o := .setSpeed) hp nofun rpm (frameOk_commandFrame _ _ _) (freq16 rpm)
  | reportSpeed arg => exact hi.readStarted hp arg
  | framePowerOn | framePowerOff | frameSpeed | frameStatus => exact hi.built hp _ _ _

/-! ### The step of the phase -/

/-- The table enters no phase of `send` from outside `send` (10_state.md R35). -/
theorem transmitting_of_tablePhase {s : State} (h : (tablePhase s).transmitting = true) : s.phase.transmitting = true := by
  cases hp : s.phase <;> grind [tablePhase, Phase.transmitting]

/-- Nor a phase of `read_status` from outside `read_status`. -/
theorem receiving_of_tablePhase {s : State} (h : (tablePhase s).receiving = true) : s.phase.receiving = true := by
  cases hp : s.phase <;> grind [tablePhase, Phase.receiving]

/-- An idle block stays idle but for an acceptance (70_reset_and_hazards.md R222). -/
theorem tablePhase_idle {s : State} (hp : s.phase = .idle) : tablePhase s = .idle := by simp [tablePhase, hp]

/-- Between TX_ASSERT and TX_RELEASE the line is not due to change (42_tx_sequencer.md R136). -/
theorem tablePhase_lineAsserted {s : State} (ha : s.phase ≠ .txAssert) (hr : s.phase ≠ .txRelease) :
    (tablePhase s).lineAsserted = s.phase.lineAsserted := by
  cases hp : s.phase <;> grind [tablePhase, Phase.lineAsserted]

/-- DIR follows PHASE (42_tx_sequencer.md R136). -/
theorem PhaseEffect.line {s t : State} (e : PhaseEffect s t) (hl : s.dir = s.phase.lineAsserted) :
    t.dir = t.phase.lineAsserted := by
  rw [e.phase]
  obtain ⟨hd, ha, hr⟩ | ⟨hp, hd, -⟩ | ⟨hp, hd, -⟩ := e.dir
  · rw [hd, hl, tablePhase_lineAsserted ha hr]
  · simp [hd, tablePhase, hp, Phase.lineAsserted]
  · simp [hd, tablePhase, hp, Phase.lineAsserted]

/-- A phase leaves FAULT within the parameters, and 0 while the operation goes on (10_state.md R28). -/
theorem PhaseEffect.faultOk {s t : State} (e : PhaseEffect s t) (hi : Inv s) :
    FaultOk s.cfg t.fault t.faultLog ∧ (t.busy = true → t.fault = 0) := by
  obtain ⟨hf, hl⟩ | ⟨k, hk, hp, hf, hl⟩ := e.fault
  · rw [hf, hl]
    refine ⟨hi.faultOk, fun hb => hi.faultWhileBusy ?_⟩
    rw [busy_eq_true, e.phase] at hb
    exact (busy_eq_true s).2 fun hp => hb (tablePhase_idle hp)
  · rw [hf, hl]
    exact ⟨hk.faultOk hi, fun hb => absurd hp ((busy_eq_true t).1 hb)⟩

/-- Clause by clause: what the phase writes is in its effect, what it keeps in its frame. -/
theorem phaseStep_inv {s t : State} (hi : Inv s) (h : phaseStep s = .next t) : Inv t := by
  have e := phaseStep_effect h
  obtain ⟨-, hbuf, hop, -, hwire, hcfg, -⟩ := phaseStep_frame h
  obtain ⟨hfault, hbusy⟩ := e.faultOk hi
  rw [← hcfg] at hfault
  obtain ⟨bs, hport, hwritten⟩ := e.written
  exact {
    line := e.line hi.line
    txIndex := e.txIndex
    rxIndex := fun hp => (e.rxIndex hp).elim id fun ⟨hs, hx⟩ => hx ▸ hi.rxIndex hs
    frame := fun ht => hbuf ▸ hi.frame (transmitting_of_tablePhase (e.phase ▸ ht))
    txOp := fun ht => hop ▸ hi.txOp (transmitting_of_tablePhase (e.phase ▸ ht))
    rxOp := fun hr => hop ▸ hi.rxOp (receiving_of_tablePhase (e.phase ▸ hr))
    faultWhileBusy := hbusy
    framingFault := hfault.framing
    transportFault := hfault.transport
    timeoutFault := hfault.timeout
    faultCode := hfault.code
    faultRecord := hfault.record
    noTxErr := fun hc => by
      rw [hcfg] at hc
      simp [e.txerr, hi.noTxErr hc, hc]
    wireOrder := by
      rw [hwire, hport, hwritten, ← List.append_assoc]
      exact hi.wireOrder.append_right bs }

/-! ### Every step -/

/-- Whoever moves, the invariant is kept. -/
theorem step_inv {s t : State} (hi : Inv s) (h : step s = .next t) : Inv t := by
  obtain ⟨-, rfl⟩ | ⟨-, hk⟩ | ⟨-, hp, p, rest, i, -, -, -, rfl⟩ | ⟨-, hb⟩ := step_effect h
  · exact resetBlock_inv (moveUsed_inv hi)
  · exact hk.inv hi
  · exact idleEffect_inv ((registersKept_take s rest).inv hi) (by simpa using hp) i
  · exact phaseStep_inv (moveUsed_inv hi) hb

/-- With IDX an index of its buffer every phase answers a next state (10_state.md R34; log 19). -/
theorem phaseStep_answers {s : State} (hi : Inv s) : ∃ t, phaseStep s = .next t := by
  cases hp : s.phase <;> simp only [phaseStep, hp]
  case txWrite => exact ⟨_, dif_pos (hi.txIndex hp)⟩
  case rxRead => cases hf : s.rxFifo <;> simp [stepRxRead, hf, hi.rxIndex hp]
  case rxFlush => cases hf : s.rxFifo <;> simp [stepRxFlush, hf]
  case rxDecode => unfold stepRxDecode; split <;> exact ⟨_, rfl⟩
  all_goals exact ⟨_, rfl⟩

/-- Under the invariant every step answers a next state: a word always does, whatever it is (log 8), and so does the
phase. -/
theorem step_answers {s : State} (hi : Inv s) : ∃ t, step s = .next t := by
  by_cases hm : nextMove s = .block
  · by_cases hw : ∀ p ∈ s.inbox.head?, takes p s = false
    · rw [step_phase ⟨hm, hw⟩]
      exact phaseStep_answers (moveUsed_inv hi)
    · obtain ⟨p, rest, hb, ht⟩ : ∃ p rest, s.inbox = p :: rest ∧ takes p s = true := by
        cases hb : s.inbox <;> simp_all
      cases hd : decodeFor s.cfg.speedD3 p with
      | ok i => exact ⟨_, (step_runs hm hb hd ht).trans (exec_eq i _)⟩
      | error e => exact ⟨_, step_unmatched hm hb hd ht⟩
  · exact ⟨_, step_environment rfl hm⟩

/-- A run of any length under the invariant answers a next state and keeps it. -/
theorem steps_answer (n : Nat) {s : State} (hi : Inv s) : ∃ t, steps n s = .next t ∧ Inv t := by
  induction n generalizing s with
  | zero => exact ⟨s, rfl, hi⟩
  | succ n ih =>
    obtain ⟨u, hu⟩ := step_answers hi
    rw [steps_succ n hu]
    exact ih (step_inv hi hu)

/-- Settles O6: every step answers under the invariant and keeps it, so every run does. -/
theorem noFaultUnderInvariant : Obligations.NoFaultUnderInvariant := by
  intro s hi
  obtain ⟨t, ht⟩ := step_answers hi
  exact ⟨⟨t, ht, step_inv hi ht⟩, fun n => steps_answer n hi⟩

end Sys2Proof.Machine
end

section
/-! The rules of 10_state.md about PHASE and single registers, each read off `step_effect`. -/

namespace Sys2Proof.Machine

theorem tablePhase_moveUsed (s : State) : tablePhase (moveUsed s) = tablePhase s := by simp [tablePhase]

/-- Settles O1: at the start by the reset values, in a run because the reset move resets the block. -/
theorem resetLeavesBlockIdleAndListening : Obligations.ResetLeavesBlockIdleAndListening := by
  refine ⟨⟨rfl, rfl, rfl, rfl, rfl, rfl⟩, fun s hm => ⟨_, step_environment hm nofun, ?_⟩⟩
  exact ⟨rfl, rfl, rfl, rfl, rfl, rfl, moveUsed_rxFifo s⟩

/-- Settles O15: the row's meaning is the arrival of its encoding. -/
theorem statusRowArrivesInFifo : Obligations.StatusRowArrivesInFifo := fun _ _ _ _ _ _ _ _ _ => rfl

/-- Settles O20: a busy block takes no row but the drive's. -/
theorem commandFrameHeldWhileBusy : Obligations.CommandFrameHeldWhileBusy := by
  intro i s hi hp
  rw [exec_eq, if_neg (by simp [hp, hi])]
  rfl

/-- A step of the phase moves PHASE as the table says. -/
theorem step_tablePhase {s t : State} (hb : BlockMoves s) (h : step s = .next t) : t.phase = tablePhase s := by
  rw [step_phase hb] at h
  rw [(phaseStep_effect h).phase, tablePhase_moveUsed]

/-- Acceptance alone takes an idle block elsewhere; a frame row does not. -/
theorem idleEffect_leavesIdle {i : Instr} {s : State} (h : (idleEffect i s).phase ≠ s.phase) :
    ∃ o arg, i = .ofHostOp o arg := by
  by_contra hn
  have hf : i.format ≠ .hostCmd := fun hf => hn (exists_ofHostOp hf)
  exact h (idleEffect_phase_frameRow hf s)

/-- A frame row leaves PHASE whether it is taken or held. -/
theorem exec_frameRow_phase {i : Instr} (hi : i.format ≠ .hostCmd) (s : State) :
    ∃ t, exec i s = .next t ∧ t.phase = s.phase := by
  refine ⟨_, exec_eq i s, ?_⟩
  split_ifs
  · exact idleEffect_phase_frameRow hi s
  · rfl

/-- Settles O46: the table for the block's phases, reset alone among the other moves, and acceptance alone among the words. -/
theorem phasesFollowTable : Obligations.PhasesFollowTable := by
  refine ⟨fun s t => step_tablePhase, ?_, ?_, fun i s hi => exec_frameRow_phase hi s, ?_⟩
  · intro s t hm h
    obtain ⟨hr, rfl⟩ | ⟨hr, hk⟩ | ⟨hb, -⟩ | ⟨⟨hb, -⟩, -⟩ := step_effect h
    · rw [if_pos hr]; rfl
    · rw [if_neg hr]; exact hk.phase
    · exact absurd hb hm
    · exact absurd hb hm
  · intro o arg s hp
    obtain ⟨hphase, -⟩ := idleEffect_ofHostOp o arg s
    exact ⟨_, (exec_eq _ s).trans (by rw [if_pos (.inl hp)]), hphase⟩
  · intro s t hm hw h hne
    obtain ⟨hr, -⟩ | ⟨-, hk⟩ | ⟨-, hp, p, rest, i, hi, hd, -, rfl⟩ | ⟨hb, -⟩ := step_effect h
    · simp [hr] at hm
    · exact absurd hk.phase hne
    · obtain ⟨o, arg, rfl⟩ := idleEffect_leavesIdle (by simpa using hne)
      exact ⟨hp, p, by simp [hi], o, arg, hd, (idleEffect_ofHostOp o arg _).1⟩
    · exact absurd hb hw

/-- Settles O49: only the read phase and the decode have RXBUF, FREQ_RAW and RPM among what they write. -/
theorem resultsChangeOnlyWhenRead : Obligations.ResultsChangeOnlyWhenRead := by
  intro s t h hm
  obtain ⟨hr, -⟩ | ⟨-, hk⟩ | ⟨-, -, p, rest, i, -, -, -, rfl⟩ | ⟨-, hb⟩ := step_effect h
  · exact absurd hr hm
  · simp [hk.rxbuf, hk.freqRaw, hk.rpm]
  · simp
  · have e := phaseStep_effect hb
    have hx := e.rxbuf
    have hr := e.results
    simp only [moveUsed_rxbuf, moveUsed_phase, moveUsed_rxFifo, moveUsed_idx, moveUsed_freqRaw, moveUsed_rpm,
      moveUsed_faultLog, moveUsed_fault] at hx hr
    exact ⟨hx.resolve_left, fun hne => hr.resolve_left (by tauto)⟩

/-- Settles O51: only a completion without an error has RUN among what it writes. -/
theorem runChangesOnlyByPowerCommands : Obligations.RunChangesOnlyByPowerCommands := by
  intro s t h hne
  obtain ⟨hr, rfl⟩ | ⟨-, hk⟩ | ⟨-, -, p, rest, i, -, -, -, rfl⟩ | ⟨-, hb⟩ := step_effect h
  · exact .inl ⟨hr, rfl⟩
  · exact absurd hk.run hne
  · simp at hne
  · have e := (phaseStep_effect hb).run
    simp only [moveUsed_run, moveUsed_phase, moveUsed_txerr, moveUsed_op] at e
    exact .inr (e.resolve_left hne)

/-- Settles O52: only TX_ASSERT and TX_RELEASE have DIR among what they write, each with its event. -/
theorem lineChangesOnlyByItsEvents : Obligations.LineChangesOnlyByItsEvents := by
  intro s t h hne
  obtain ⟨hr, rfl⟩ | ⟨-, hk⟩ | ⟨-, -, p, rest, i, -, -, -, rfl⟩ | ⟨-, hb⟩ := step_effect h
  · exact .inl ⟨hr, rfl⟩
  · exact absurd hk.dir hne
  · simp at hne
  · have e := (phaseStep_effect hb).dir
    simp only [moveUsed_dir, moveUsed_phase, moveUsed_trace] at e
    exact .inr (e.resolve_left fun ⟨hd, _⟩ => hne hd)

/-- Settles O53: only SET_SPEED and FRAME_SPEED, taken by an idle block, have FREQ_CMD among what they write. -/
theorem freqCmdChangesOnlyBySpeedFrames : Obligations.FreqCmdChangesOnlyBySpeedFrames := by
  intro s t h hne
  obtain ⟨hr, -⟩ | ⟨-, hk⟩ | ⟨-, hp, p, rest, i, hi, hd, -, rfl⟩ | ⟨-, hb⟩ := step_effect h
  · exact .inl hr
  · exact absurd hk.freqCmd hne
  · obtain ⟨hbuf, hw⟩ := idleEffect_freqCmd (i := i) (s := { moveUsed s with inbox := rest }) (by simpa using hne)
    refine .inr ⟨hp, p, by simp [hi], by simpa using hbuf, ?_⟩
    obtain ⟨rpm, rfl, hf⟩ | ⟨d1, d2, x, a, rfl, hf⟩ := hw
    · exact .inl ⟨rpm, hd, hf⟩
    · exact .inr ⟨d1, d2, x, a, hd, hf⟩
  · obtain ⟨hf, -⟩ := phaseStep_frame hb
    exact absurd (hf.trans (moveUsed_freqCmd s)) hne

/-- Settles O54: no kind of step has a parameter among what it writes. -/
theorem parametersNeverChange : Obligations.ParametersNeverChange := by
  intro s t h
  obtain ⟨-, rfl⟩ | ⟨-, hk⟩ | ⟨-, -, p, rest, i, -, -, -, rfl⟩ | ⟨-, hb⟩ := step_effect h
  · exact moveUsed_cfg s
  · exact hk.cfg
  · simp
  · obtain ⟨-, -, -, -, -, hc, -⟩ := phaseStep_frame hb
    exact hc.trans (moveUsed_cfg s)

/-- An idle block's word clears TXERR if it is an operation, and otherwise keeps TXERR and PHASE. -/
theorem idleEffect_txerr (i : Instr) (s : State) :
    ((idleEffect i s).txerr = false ∧ ((idleEffect i s).phase = .txAssert ∨ (idleEffect i s).phase = .rxFlush)) ∨
      ((idleEffect i s).txerr = s.txerr ∧ (idleEffect i s).phase = s.phase) := by
  by_cases hf : i.format = .hostCmd
  · obtain ⟨o, arg, rfl⟩ := exists_ofHostOp hf
    obtain ⟨hp, -, he⟩ := idleEffect_ofHostOp o arg s
    exact .inl ⟨he, by rw [hp]; split_ifs <;> simp⟩
  · rw [idleEffect_frameRow hf]
    exact .inr ⟨rfl, rfl⟩

/-- What a step does to TXERR: reset and acceptance clear it, a write latches its error bit, everything else keeps it and
leaves an idle block idle. -/
theorem step_txerr {s t : State} (h : step s = .next t) :
    (nextMove s = .reset ∧ t.txerr = false ∧ t.phase = .idle) ∨
    (s.phase = .idle ∧ t.txerr = false ∧ (t.phase = .txAssert ∨ t.phase = .rxFlush)) ∨
    (s.phase = .txWrite ∧ t.txerr = (s.txerr || (s.cfg.hasTxErr && writeAnswer (moveUsed s) 0))) ∨
    (t.txerr = s.txerr ∧ (s.phase = .idle → t.phase = .idle)) := by
  obtain ⟨hr, rfl⟩ | ⟨-, hk⟩ | ⟨-, hp, p, rest, i, -, -, -, rfl⟩ | ⟨-, hb⟩ := step_effect h
  · exact .inl ⟨hr, rfl, rfl⟩
  · exact .inr (.inr (.inr ⟨hk.txerr, hk.phase.trans⟩))
  · obtain hc | ⟨he, ht⟩ := idleEffect_txerr i { moveUsed s with inbox := rest }
    · exact .inr (.inl ⟨hp, hc⟩)
    · exact .inr (.inr (.inr ⟨he.trans (moveUsed_txerr s), (ht.trans (moveUsed_phase s)).trans⟩))
  · have e := phaseStep_effect hb
    have he := e.txerr
    by_cases hp : s.phase = .txWrite
    · exact .inr (.inr (.inl (by simp [he, hp, writeAnswer_zero])))
    · refine .inr (.inr (.inr ⟨by simp [he, hp], fun hs => ?_⟩))
      rw [e.phase, tablePhase_moveUsed, tablePhase_idle hs]

/-- Settles O50: what a step does to TXERR; that it stays 0 without HAS_TX_ERR is the invariant's. -/
theorem errorLatchFollowsWrites : Obligations.ErrorLatchFollowsWrites := by
  intro s t h
  have hinv : Inv s → s.cfg.hasTxErr = false → t.txerr = false := fun hi hc =>
    (step_inv hi h).noTxErr (by rw [parametersNeverChange s t h, hc])
  obtain ⟨hr, he, -⟩ | ⟨hp, he, ht⟩ | ⟨hp, he⟩ | ⟨he, ht⟩ := step_txerr h
  · exact ⟨by simp [he], fun _ _ => .inr hr, fun _ _ => he, hinv⟩
  · exact ⟨by simp [he], fun _ _ => .inl ⟨hp, ht⟩, fun _ _ => he, hinv⟩
  · exact ⟨fun h0 h1 => ⟨hp, by simpa [h0, h1] using he⟩, by simp +contextual [he], by simp [hp], hinv⟩
  · exact ⟨by simp +contextual [he], by simp +contextual [he], fun hp hn => absurd (ht hp) hn, hinv⟩

end Sys2Proof.Machine
end

section
/-! The one totally ordered trace of 20_memory.md R60: what each phase appends to it, and that nothing else touches it. -/

namespace Sys2Proof.Machine

/-- The events the step of the phase emits, oldest first (42_tx_sequencer.md R126 to R131, 43_rx_parser.md R146, R148). -/
def phaseEvents (s : State) : List Event :=
  match s.phase with
  | .idle | .rxDecode => []
  | .txAssert => [.dirAssert]
  | .txSettle => [.delay Config.tSettle]
  | .txWrite => s.txbuf[s.idx.toNat]?.toList.map .txWrite
  | .txDrain => [.delay (tDrain s.cfg)]
  | .txRelease => [.dirDeassert]
  | .txGuard => [.delay Config.tGuard]
  | .rxFlush => .rxReadable (!s.rxFifo.isEmpty) :: s.rxFifo.head?.toList.map .rxRead
  | .rxRead => s.rxFifo.head?.toList.map .rxRead

/-- A flush check emits up to two events, every other phase one at most. -/
theorem length_phaseEvents_le (s : State) : (phaseEvents s).length ≤ 2 := by
  cases hp : s.phase <;> simp only [phaseEvents, hp]
  case txWrite => cases s.txbuf[s.idx.toNat]? <;> simp
  case rxFlush | rxRead => cases s.rxFifo <;> simp
  all_goals simp

/-- Completion emits no event of its own. -/
@[simp] theorem completeSend_trace (s : State) : (completeSend s).trace = s.trace := by
  obtain ⟨-, e⟩ | ⟨-, -, e⟩ | ⟨-, -, e⟩ | ⟨-, -, e⟩ := completeSend_cases s <;> simp [e]

/-- Nor does the wait for a byte. -/
@[simp] theorem awaitByte_trace (s : State) : (awaitByte s).trace = s.trace := by
  obtain ⟨-, e⟩ | ⟨_, -, -, e⟩ | ⟨_, -, -, e⟩ := awaitByte_cases s <;> simp [e]

/-- Phase by phase, in the order of `phaseStep_cases`: a phase appends its events and rewrites none. -/
theorem phaseStep_trace {s t : State} (h : phaseStep s = .next t) : t.trace = s.trace ++ phaseEvents s := by
  rcases phaseStep_cases h with ⟨hp, rfl⟩ | ⟨hp, rfl⟩ | ⟨hp, rfl⟩ | ⟨hp, hi, rfl⟩ | ⟨hp, rfl⟩ | ⟨hp, rfl⟩ | ⟨hp, rfl⟩ |
    ⟨hp, b, rest, hf, rfl⟩ | ⟨hp, hf, rfl⟩ | ⟨hp, b, rest, hf, hi, rfl⟩ | ⟨hp, hf, rfl⟩ | ⟨hp, -, -, rfl⟩ | ⟨hp, -, rfl⟩
  all_goals simp [phaseEvents, nextTxByte_eq, nextRxByte_eq, *]

theorem RegistersKept.trace {s t : State} (h : RegistersKept s t) : t.trace = s.trace := by rw [h.frame]

@[simp] theorem idleEffect_trace (i : Instr) (s : State) : (idleEffect i s).trace = s.trace := by rw [idleEffect_frame]

/-- A step that is not the block's phase leaves the trace as it is. -/
theorem step_trace {s t : State} (h : step s = .next t) :
    t.trace = s.trace ∨ (BlockMoves s ∧ t.trace = s.trace ++ phaseEvents (moveUsed s)) := by
  obtain ⟨-, rfl⟩ | ⟨-, hk⟩ | ⟨-, -, p, rest, i, -, -, -, rfl⟩ | ⟨hb, hs⟩ := step_effect h
  · exact .inl (moveUsed_trace s)
  · exact .inl hk.trace
  · exact .inl (by simp)
  · exact .inr ⟨hb, by rw [phaseStep_trace hs, moveUsed_trace]⟩

/-- Settles O55: only the step of a phase reaches the trace, and a phase appends at most the two events of a flush check. -/
theorem traceOnlyGrows : Obligations.TraceOnlyGrows := by
  intro s t h
  obtain ht | ⟨-, ht⟩ := step_trace h
  · exact ⟨[], by simp [ht], by simp⟩
  · exact ⟨phaseEvents (moveUsed s), ht, length_phaseEvents_le _⟩

end Sys2Proof.Machine
end

section
/-! Thirteen reads of RX_READ, from an invariant over the bytes read so far (20_memory.md R53, 43_rx_parser.md R148). -/

namespace Sys2Proof.Machine

/-- RX_READ on the oldest byte of the FIFO, as one update of the state (43_rx_parser.md R148). -/
theorem phaseStep_rxRead {s : State} {b : Byte} {rest : List Byte} (hp : s.phase = .rxRead) (hf : s.rxFifo = b :: rest)
    (hi : s.idx.toNat < 13) :
    phaseStep s = .next { s with
      rxbuf := s.rxbuf.set s.idx.toNat b, rxFifo := rest, idx := s.idx + 1, trace := s.trace ++ [.rxRead b]
      phase := if s.idx.toNat + 1 = 13 then .rxDecode else .rxRead } := by
  simp only [phaseStep, hp, stepRxRead, hf, dif_pos hi, nextRxByte_eq, rxRead_idx, rxRead_phase, idx_succ_eq_thirteen]
  rfl

/-- RXBUF once the first `k` bytes of a frame are stored over what it held. -/
def storedFirst (frame old : Vector Byte 13) (k : Nat) : Vector Byte 13 :=
  Vector.ofFn fun i => if i.val < k then frame[i] else old[i]

theorem storedFirst_zero (frame old : Vector Byte 13) : storedFirst frame old 0 = old := by
  ext i hi; simp [storedFirst]

theorem storedFirst_all (frame old : Vector Byte 13) : storedFirst frame old 13 = frame := by
  ext i hi; simp [storedFirst]

/-- Storing the next byte at the next index. -/
theorem storedFirst_succ (frame old : Vector Byte 13) {k : Nat} (hk : k < 13) :
    storedFirst frame old (k + 1) = (storedFirst frame old k).set k frame[k] := by
  ext i hi
  rw [Vector.getElem_set]
  grind [storedFirst]

/-- The state of RX_READ entered in `s` once `k` bytes of the frame in front of the FIFO are read. -/
def afterReads (frame : Vector Byte 13) (rest : List Byte) (k : Nat) (s : State) : State :=
  { s with
    rxbuf := storedFirst frame s.rxbuf k, rxFifo := frame.toList.drop k ++ rest, idx := BitVec.ofNat 4 k
    trace := s.trace ++ (frame.toList.take k).map .rxRead, phase := if k = 13 then .rxDecode else .rxRead }

/-- Reading one more byte (43_rx_parser.md R148). -/
theorem step_afterReads {s : State} (hu : Undisturbed s) (frame : Vector Byte 13) (rest : List Byte) {k : Nat}
    (hk : k < 13) : step (afterReads frame rest k s) = .next (afterReads frame rest (k + 1) s) := by
  have hp : (afterReads frame rest k s).phase = .rxRead := if_neg hk.ne
  have hi : (afterReads frame rest k s).idx.toNat = k := by simp [afterReads]; omega
  have hf : (afterReads frame rest k s).rxFifo = frame[k] :: (frame.toList.drop (k + 1) ++ rest) := by
    simp [afterReads, List.drop_eq_getElem_cons, hk]
  have hu' : Undisturbed (afterReads frame rest k s) := hu
  rw [step_undisturbed hu' (by simp [hp]), phaseStep_rxRead hp hf (by omega)]
  simp only [hi]
  simp [afterReads, storedFirst_succ, hk, List.take_add_one, BitVec.ofNat_add]

/-- A run of reads within the frame. -/
theorem steps_afterReads {s : State} (hu : Undisturbed s) (frame : Vector Byte 13) (rest : List Byte) {k : Nat}
    (hk : k ≤ 13) : steps k (afterReads frame rest 0 s) = .next (afterReads frame rest k s) := by
  induction k with
  | zero => rfl
  | succ k ih => rw [steps_add k 1 (ih (by omega)), steps_succ 0 (step_afterReads hu frame rest hk), steps_zero]

/-- Settles O37: thirteen reads from the start of the invariant to its end. -/
theorem thirteenReadsFillBuffer : Obligations.ThirteenReadsFillBuffer := by
  intro s frame rest hu hp hi hf
  have h0 : afterReads frame rest 0 s = s := by
    rw [afterReads, storedFirst_zero, show BitVec.ofNat 4 0 = s.idx from hi.symm]
    simp [← hp, ← hf]
  have h := steps_afterReads hu frame rest (k := 13) le_rfl
  rw [h0] at h
  rw [h]
  simp [afterReads, storedFirst_all]

end Sys2Proof.Machine
end

section
/-! The encodings of 30_encoding.md both ways: what each frame row admits, from an instruction to its word, and from a word
to its instruction. -/

namespace Sys2Proof

/-! ### The frame rows of the table (R81) -/

/-- Masking with 0xFF keeps a byte: such a position is fixed. -/
theorem and_maskFixed (b : Byte) : b &&& 255#8 = b := BitVec.and_allOnes

theorem zipWith_and_maskFixed (f : List Byte) : List.zipWith (· &&& ·) f (List.replicate f.length 0xFF) = f := by
  induction f with
  | nil => rfl
  | cons b f ih => simpa [List.replicate_succ, and_maskFixed] using ih

/-- A row without a variable byte admits its own pattern alone. -/
theorem FrameRow.admits_iff_of_mask {r : FrameRow} {f : List Byte} (hm : r.mask = List.replicate f.length 0xFF) :
    r.admits f = true ↔ f = r.pattern := by
  rw [FrameRow.admits, hm, zipWith_and_maskFixed, beq_iff_eq]

theorem rowPowerOn_admits_iff {f : List Byte} (hl : f.length = 9) :
    rowPowerOn.admits f = true ↔ f = [0x00, 0x55, 0x00, 0x00, 0x00, 0x01, 0x54, 0xAA, 0xFF] :=
  FrameRow.admits_iff_of_mask (by rw [hl]; rfl)

theorem rowPowerOff_admits_iff {f : List Byte} (hl : f.length = 9) :
    rowPowerOff.admits f = true ↔ f = [0x00, 0x55, 0x00, 0x00, 0x01, 0x01, 0x55, 0xAC, 0xFF] :=
  FrameRow.admits_iff_of_mask (by rw [hl]; rfl)

/-- The speed row leaves D1, D2, XOR and ADD free and fixes SPEED_D3 at index 4 (R74). -/
theorem rowSpeedOf_admits_iff (speedD3 h0 h1 d1 d2 d3 k x a t : Byte) :
    (rowSpeedOf speedD3).admits [h0, h1, d1, d2, d3, k, x, a, t] = true ↔
      [h0, h1, d1, d2, d3, k, x, a, t] = [0x00, 0x55, d1, d2, speedD3, 0x01, x, a, 0xFF] := by
  simp [FrameRow.admits, rowSpeedOf, rowSpeed, and_maskFixed]

/-- The status row leaves D1 to D6, XOR and ADD free (R76). -/
theorem rowStatus_admits_iff (h0 h1 d1 d2 d3 d4 d5 d6 k0 k1 x a t : Byte) :
    rowStatus.admits [h0, h1, d1, d2, d3, d4, d5, d6, k0, k1, x, a, t] = true ↔
      [h0, h1, d1, d2, d3, d4, d5, d6, k0, k1, x, a, t] =
        [0x00, 0x55, d1, d2, d3, d4, d5, d6, 0x01, 0x00, x, a, 0xFF] := by
  simp [FrameRow.admits, rowStatus, and_maskFixed]

/-- Settles O23: the power rows have no variable byte, so each admits one frame; the two frames differ, and of them the
speed row admits the power-on frame only. -/
theorem rowsOverlapInPowerOnOnly : Obligations.RowsOverlapInPowerOnOnly := by
  intro f hf
  rw [rowPowerOn_admits_iff hf, rowPowerOff_admits_iff hf]
  refine ⟨?_, ?_, ?_⟩
  · rintro ⟨hon, hoff⟩
    exact absurd (hon.symm.trans hoff) (by decide)
  · rintro ⟨rfl, hspeed⟩
    exact absurd hspeed (by decide)
  · rintro rfl
    exact ⟨by decide, rfl⟩

/-! ### From an instruction to its word and back -/

/-- Settles O24: these are the words the encoder gives the four operations. -/
theorem everyHostCodeIsAnOperation : Obligations.EveryHostCodeIsAnOperation := fun arg =>
  ⟨decode_encodeHostCmd .turnOn arg, decode_encodeHostCmd .turnOff arg, decode_encodeHostCmd .setSpeed arg,
    decode_encodeHostCmd .reportSpeed arg⟩

/-- The speed row's word is read by its own row unless it is the power-on frame; index 4 keeps it from being the power-off
frame (R75). -/
theorem decode_encode_frameSpeed (d1 d2 x a : Byte) :
    decode (encode (.frameSpeed d1 d2 x a)) = .ok (Instr.frameSpeed d1 d2 x a).canon := by
  by_cases hz : d1 = 0x00 ∧ d2 = 0x00 ∧ x = 0x54 ∧ a = 0xAA
  · obtain ⟨rfl, rfl, rfl, rfl⟩ := hz
    rfl
  · have hon : ¬ rowPowerOn.admits [0x00, 0x55, d1, d2, 0x00, 0x01, x, a, 0xFF] = true := fun h =>
      hz (by simpa using (rowPowerOn_admits_iff rfl).1 h)
    have hoff : ¬ rowPowerOff.admits [0x00, 0x55, d1, d2, 0x00, 0x01, x, a, 0xFF] = true := fun h => by
      simpa using (rowPowerOff_admits_iff rfl).1 h
    have hspeed : rowSpeed.admits [0x00, 0x55, d1, d2, 0x00, 0x01, x, a, 0xFF] = true :=
      (rowSpeedOf_admits_iff 0x00 _ _ _ _ _ _ _ _ _).2 rfl
    rw [Instr.canon, if_neg hz]
    exact (if_neg hon).trans ((if_neg hoff).trans (if_pos hspeed))

theorem decode_encode_frameStatus (d1 d2 d3 d4 d5 d6 x a : Byte) :
    decode (encode (.frameStatus d1 d2 d3 d4 d5 d6 x a)) = .ok (.frameStatus d1 d2 d3 d4 d5 d6 x a) :=
  if_pos ((rowStatus_admits_iff _ _ _ _ _ _ _ _ _ _ _ _ _).2 rfl)

/-- The decoder reads the encoder's word as the instruction, in its canonical row. -/
theorem decode_encode (i : Instr) : decode (encode i) = .ok i.canon := by
  cases i with
  | turnOn arg => exact decode_encodeHostCmd .turnOn arg
  | turnOff arg => exact decode_encodeHostCmd .turnOff arg
  | setSpeed rpm => exact decode_encodeHostCmd .setSpeed rpm
  | reportSpeed arg => exact decode_encodeHostCmd .reportSpeed arg
  | framePowerOn | framePowerOff => rfl
  | frameSpeed d1 d2 x a => exact decode_encode_frameSpeed d1 d2 x a
  | frameStatus d1 d2 d3 d4 d5 d6 x a => exact decode_encode_frameStatus d1 d2 d3 d4 d5 d6 x a

/-- One instruction has another canonical row (R75). -/
theorem eq_of_canon_ne {i : Instr} (h : i.canon ≠ i) : i = .frameSpeed 0x00 0x00 0x54 0xAA := by
  cases i with
  | frameSpeed d1 d2 x a =>
    by_cases hz : d1 = 0x00 ∧ d2 = 0x00 ∧ x = 0x54 ∧ a = 0xAA
    · obtain ⟨rfl, rfl, rfl, rfl⟩ := hz
      rfl
    · exact absurd (if_neg hz) h
  | turnOn | turnOff | setSpeed | reportSpeed | framePowerOn | framePowerOff | frameStatus => exact absurd rfl h

/-- Settles O21, row by row; the one exception is the frame two rows share. -/
theorem decodeOfEncode : Obligations.DecodeOfEncode := by
  refine ⟨decode_encode, fun i h => ?_⟩
  obtain rfl := eq_of_canon_ne h
  exact ⟨rfl, rfl⟩

/-! ### From a word to its instruction and back -/

theorem encode_ofHostOp (o : HostOp) (arg : Rpm) : encode (.ofHostOp o arg) = encodeHostCmd o arg := by
  cases o <;> rfl

/-- A byte whose bits 7 to 2 are 0 is its two low bits (R71, log 4). -/
theorem append_lowBits (b : Byte) (h : b.extractLsb' 2 6 = 0) : (0#6 ++ b.extractLsb' 0 2 : Byte) = b := by
  revert b; decide

theorem encode_of_decodeHostCmd {l : List Byte} {i : Instr} (h : decodeHostCmd l = .ok i) :
    encode i = ⟨.hostCmd, l⟩ := by
  unfold decodeHostCmd at h
  split at h
  · split_ifs at h with hop
    injection h with h
    rw [← h, encode_ofHostOp, encodeHostCmd, HostOp.code_ofCode, append_lowBits _ hop, argBytes_argOfBytes]
  · cases h

theorem encode_of_decodeCmdFrame {l : List Byte} {i : Instr} (h : decodeCmdFrame l = .ok i) :
    encode i = ⟨.cmdFrame, l⟩ := by
  unfold decodeCmdFrame at h
  split at h
  · split_ifs at h with hon hoff hspeed <;> injection h with h
    · rw [← h, (rowPowerOn_admits_iff rfl).1 hon, encode]
    · rw [← h, (rowPowerOff_admits_iff rfl).1 hoff, encode]
    · rw [← h, (rowSpeedOf_admits_iff 0x00 _ _ _ _ _ _ _ _ _).1 hspeed, encode]
  · cases h

theorem encode_of_decodeStatFrame {l : List Byte} {i : Instr} (h : decodeStatFrame l = .ok i) :
    encode i = ⟨.statFrame, l⟩ := by
  unfold decodeStatFrame at h
  split at h
  · split_ifs at h with hstatus
    injection h with h
    rw [← h, (rowStatus_admits_iff _ _ _ _ _ _ _ _ _ _ _ _ _).1 hstatus, encode]
  · cases h

/-- No bit of an accepted word is dropped. -/
theorem encode_of_decode {p : Presented} {i : Instr} (h : decode p = .ok i) : encode i = p := by
  obtain ⟨fmt, l⟩ := p
  cases fmt with
  | hostCmd => exact encode_of_decodeHostCmd h
  | cmdFrame => exact encode_of_decodeCmdFrame h
  | statFrame => exact encode_of_decodeStatFrame h

/-- A block reads its own speed frame (R74). -/
theorem decodeSpeedFrame_ownFrame (speedD3 d1 d2 x a : Byte) :
    decodeSpeedFrame speedD3 [0x00, 0x55, d1, d2, speedD3, 0x01, x, a, 0xFF] = some (.frameSpeed d1 d2 x a) :=
  if_pos ((rowSpeedOf_admits_iff _ _ _ _ _ _ _ _ _ _).2 rfl)

/-- A command frame word decides its row; the variable bytes of a speed row are the word's. -/
theorem frameRow_of_encode {d d1 d2 x a : Byte} {i : Instr}
    (h : encode i = ⟨.cmdFrame, [0x00, 0x55, d1, d2, d, 0x01, x, a, 0xFF]⟩) :
    i = .frameSpeed d1 d2 x a ∨ i = .framePowerOn ∨ i = .framePowerOff := by
  cases i with
  | frameSpeed e1 e2 y b =>
    simp only [encode, Presented.mk.injEq, List.cons.injEq] at h
    obtain ⟨-, -, -, rfl, rfl, -, -, rfl, rfl, -⟩ := h
    exact .inl rfl
  | framePowerOn => exact .inr (.inl rfl)
  | framePowerOff => exact .inr (.inr rfl)
  | turnOn | turnOff | setSpeed | reportSpeed | frameStatus => cases h

/-- A block reads a speed frame with its SPEED_D3 at index 4 by the table's rows first, and otherwise as its own (log 8). -/
theorem decodeFor_ownFrame (d d1 d2 x a : Byte) :
    ∃ i, decodeFor d ⟨.cmdFrame, [0x00, 0x55, d1, d2, d, 0x01, x, a, 0xFF]⟩ = .ok i ∧
      (i = .frameSpeed d1 d2 x a ∨ i = .framePowerOn ∨ i = .framePowerOff) := by
  cases h : decode ⟨.cmdFrame, [0x00, 0x55, d1, d2, d, 0x01, x, a, 0xFF]⟩ with
  | ok i => exact ⟨i, decodeFor_of_decode h, frameRow_of_encode (encode_of_decode h)⟩
  | error e => exact ⟨.frameSpeed d1 d2 x a, by simp only [decodeFor, h, decodeSpeedFrame_ownFrame], .inl rfl⟩

/-- Settles O22: format by format for the table's decoder; a block's decoder adds its own speed frames. -/
theorem encodeOfDecode : Obligations.EncodeOfDecode :=
  ⟨fun _ _ h => ⟨encode_of_decode h, decode_format h⟩, fun _ _ _ => decodeFor_of_decode, fun _ _ _ => decodeFor_cases,
    decodeFor_ownFrame⟩

/-- Settles O25: the decoder is run on each word. -/
theorem specWordsDecode : Obligations.SpecWordsDecode := by
  refine ⟨?_, ?_, ?_, ?_, ?_, ?_⟩ <;> decide

end Sys2Proof
end

section
/-! Frames that coincide: the speed frame of frequency 0 with a power frame (30_encoding.md R75), and status frames that
differ in D6 and the trailer alone (R77, R78). -/

namespace Sys2Proof.Machine

/-! ### The speed frame of frequency 0 -/

theorem exec_idle {i : Instr} {s t : State} (hp : s.phase = .idle) (h : exec i s = .next t) : t = idleEffect i s := by
  rw [exec_eq, if_pos (.inl hp)] at h
  injection h with h
  exact h.symm

/-- With the D3 of a direction as SPEED_D3, frequency 0 gives that direction's power frame (R75). -/
theorem speedFrame_zero (d : Direction) : speedFrame d.d3 0 = powerFrame d := by cases d <;> rfl

theorem freq16_eq_zero {rpm : Rpm} (h : rpm.toNat / 60 * 100 % 65536 = 0) : freq16 rpm = 0 :=
  BitVec.eq_of_toNat_eq (by rw [freq16_toNat, h]; rfl)

theorem setSpeed_zero_txbuf {rpm : Rpm} {s : State} (d : Direction) (hf : rpm.toNat / 60 * 100 % 65536 = 0)
    (hd : s.cfg.speedD3 = d.d3) : (idleEffect (.setSpeed rpm) s).txbuf = powerFrame d := by
  calc (idleEffect (.setSpeed rpm) s).txbuf
    _ = speedFrame s.cfg.speedD3 (freq16 rpm) := rfl
    _ = powerFrame d := by rw [hd, freq16_eq_zero hf, speedFrame_zero]

/-- Settles O12: frequency 0 has the data bytes of a power frame, and the trailer follows from them; the decoder's answer is
the exception of `decode_encode`. -/
theorem zeroFrequencyFrameIsPowerFrame : Obligations.ZeroFrequencyFrameIsPowerFrame := by
  refine ⟨?_, ?_, ?_, decode_encode _⟩
  · intro rpm arg s t u hp hf hd ht hu
    rw [exec_idle hp ht, exec_idle hp hu, setSpeed_zero_txbuf .clockwise hf hd]
    rfl
  · intro rpm arg s t u hp hf hd ht hu
    rw [exec_idle hp ht, exec_idle hp hu, setSpeed_zero_txbuf .off hf hd]
    rfl
  · intro rpm h
    rw [Nat.div_eq_of_lt h]

/-! ### D6 and the trailer of a status frame -/

/-- A received frame with other bytes at D6, XOR and ADD (30_encoding.md R76). -/
def withIndicatorAndTrailer (rx : Vector Byte 13) (d6 x a : Byte) : Vector Byte 13 :=
  ((rx.set 7 d6).set 10 x).set 11 a

@[simp] theorem fixedBytesOk_withIndicatorAndTrailer (rx : Vector Byte 13) (d6 x a : Byte) :
    fixedBytesOk (withIndicatorAndTrailer rx d6 x a) = fixedBytesOk rx := by
  simp [fixedBytesOk, withIndicatorAndTrailer]

@[simp] theorem decodeFreq_withIndicatorAndTrailer (rx : Vector Byte 13) (d6 x a : Byte) :
    decodeFreq (withIndicatorAndTrailer rx d6 x a) = decodeFreq rx := by
  simp [decodeFreq, digitSum, withIndicatorAndTrailer]

/-- RX_DECODE on the block's turn: the check if configured, or the results (43_rx_parser.md R150 to R155). -/
theorem step_rxDecode {s : State} (hb : BlockMoves s) (hp : s.phase = .rxDecode) :
    step s = .next (if s.cfg.rxCheckFixed = true ∧ fixedBytesOk s.rxbuf = false then
      raiseFault .protocolFramingError (moveUsed s) else goTo .idle (decodeStatus (moveUsed s))) := by
  rw [step_phase hb]
  simp only [phaseStep, moveUsed_phase, hp, stepRxDecode, moveUsed_cfg, moveUsed_rxbuf, Bool.and_eq_true, Bool.not_eq_true']
  split_ifs <;> rfl

/-- Settles O40: the check and the digit decode read none of the three bytes. -/
theorem indicatorAndTrailerIgnored : Obligations.IndicatorAndTrailerIgnored := by
  intro s t u d6 x a hb hp ht hu
  change step { s with rxbuf := withIndicatorAndTrailer s.rxbuf d6 x a } = .next u at hu
  have hb' : BlockMoves { s with rxbuf := withIndicatorAndTrailer s.rxbuf d6 x a } := hb
  rw [step_rxDecode hb hp] at ht
  rw [step_rxDecode hb' hp] at hu
  injection ht with ht
  injection hu with hu
  subst ht hu
  simp only [fixedBytesOk_withIndicatorAndTrailer]
  split_ifs <;> simp

end Sys2Proof.Machine
end

section
/-! CK (40_checksum.md): the two bytes as an exclusive-or and a sum over the list of the payload's bytes, whose order does
not matter, and what a change of one byte does to each. -/

namespace Sys2Proof.Machine

theorem toList_payload (p : Payload) : p.toList = [p[0], p[1], p[2], p[3], p[4]] :=
  match p with
  | ⟨⟨[_, _, _, _, _]⟩, _⟩ => rfl

/-! ### R100, R101: the bytes as folds over the payload -/

theorem ckXor_eq_foldl (p : Payload) : ckXor p = p.toList.foldl (· ^^^ ·) 0 := by
  simp [toList_payload, ckXor]

theorem ckAdd_eq_sum (p : Payload) : ckAdd p = p.toList.sum + ckXor p := by
  simp [toList_payload, ckAdd, add_assoc]

theorem toNat_sum_bytes (l : List Byte) : l.sum.toNat = (l.map BitVec.toNat).sum % 256 := by
  induction l with
  | nil => rfl
  | cons b l ih => simp [BitVec.toNat_add, ih]

theorem ckAdd_toNat (p : Payload) :
    (ckAdd p).toNat = ((p.toList.map BitVec.toNat).sum + (ckXor p).toNat) % 256 := by
  rw [ckAdd_eq_sum, BitVec.toNat_add, toNat_sum_bytes, Nat.mod_add_mod]

/-- Settles O7: CK.XOR by definition, CK.ADD by reading its sum on natural numbers. -/
theorem checksumPairOfPayload : Obligations.ChecksumPairOfPayload := by
  intro p
  refine ⟨rfl, (ckAdd_toNat p).trans ?_⟩
  simp [toList_payload, ck, add_assoc]

/-! ### R105: the order of the bytes -/

theorem ck_eq_of_perm {p q : Payload} (h : p.toList.Perm q.toList) : ck p = ck q := by
  have hx : ckXor p = ckXor q := by rw [ckXor_eq_foldl, ckXor_eq_foldl, h.foldl_op_eq]
  have ha : ckAdd p = ckAdd q := by rw [ckAdd_eq_sum, ckAdd_eq_sum, h.sum_eq, hx]
  rw [ck, ck, hx, ha]

/-! ### R105: a change of one byte -/

theorem ckXor_set_xor (p : Payload) (i : Fin 5) (m : Byte) : ckXor (p.set i (p[i] ^^^ m)) = ckXor p ^^^ m := by
  fin_cases i <;> simp [ckXor, BitVec.xor_assoc, BitVec.xor_comm m]

theorem sum_set_add (p : Payload) (i : Fin 5) (m : Byte) : (p.set i (p[i] + m)).toList.sum = p.toList.sum + m := by
  simp [Vector.toList_set, List.sum_set']

/-- Flipping bit 7 is adding 128 modulo 256. -/
theorem xor_bitSeven_eq_add (b : Byte) : b ^^^ 0x80 = b + 0x80 := by
  revert b; decide

/-- The flip adds 128 to the sum of the bytes and 128 to the exclusive-or: nothing, modulo 256. -/
theorem ckAdd_set_xor_bitSeven (p : Payload) (i : Fin 5) : ckAdd (p.set i (p[i] ^^^ 0x80)) = ckAdd p := by
  calc ckAdd (p.set i (p[i] ^^^ 0x80))
    _ = (p.set i (p[i] + 0x80)).toList.sum + (ckXor p ^^^ 0x80) := by
      rw [ckAdd_eq_sum, ckXor_set_xor, xor_bitSeven_eq_add p[i]]
    _ = (p.toList.sum + 0x80) + (ckXor p + 0x80) := by rw [sum_set_add, xor_bitSeven_eq_add]
    _ = p.toList.sum + ckXor p + (0x80 + 0x80) := add_add_add_comm ..
    _ = ckAdd p := (add_zero _).trans (ckAdd_eq_sum p).symm

/-- Settles O8: both bytes are folds of commutative operations over the payload, and a flip of bit 7 changes both terms of
CK.ADD by 128. -/
theorem checksumIgnoresOrderAndMissesBitSeven : Obligations.ChecksumIgnoresOrderAndMissesBitSeven :=
  ⟨fun _ _ => ck_eq_of_perm, ckAdd_toNat, fun p i => Prod.ext (ckXor_set_xor p i 0x80) (ckAdd_set_xor_bitSeven p i)⟩

end Sys2Proof.Machine
end

section
/-! FB (41_frame_builder.md): what the frame of a frequency holds, what an idle block's word leaves in TXBUF, and that no
step leaves anything there but a frame FB built. -/

namespace Sys2Proof.Machine

/-! ### The row an idle block takes -/

theorem exec_of_idle (i : Instr) {s : State} (hp : s.phase = .idle) : exec i s = .next (idleEffect i s) := by
  rw [exec_eq, if_pos (.inl hp)]

/-- Settles O13: the trailers are CK of the two constant payloads. -/
theorem powerRowsBuildTheirFrames : Obligations.PowerRowsBuildTheirFrames :=
  fun _ hp => ⟨exec_of_idle .framePowerOn hp, exec_of_idle .framePowerOff hp⟩

/-! ### The frame of a frequency (R112) -/

theorem speedFrame_joinBytes (d3 hi lo : Byte) : speedFrame d3 (joinBytes hi lo) = commandFrame hi lo d3 := by
  rw [speedFrame, hiByte_joinBytes, loByte_joinBytes]

/-- A frame carries its frequency big-endian (30_encoding.md R79). -/
theorem speedFrame_frequency (d3 : Byte) (f : Half) :
    (speedFrame d3 f)[2].toNat * 256 + (speedFrame d3 f)[3].toNat = f.toNat := by
  rw [← joinBytes_toNat]
  exact congrArg BitVec.toNat (joinBytes_hiByte_loByte f)

/-- The second trailer byte on natural numbers, the fixed bytes of the payload in their places (40_checksum.md R101, R103). -/
theorem commandFrame_add_toNat (d1 d2 d3 : Byte) :
    (commandFrame d1 d2 d3)[7].toNat =
      (0x55 + d1.toNat + d2.toNat + d3.toNat + 0x01 + (commandFrame d1 d2 d3)[6].toNat) % 256 :=
  (checksumPairOfPayload #v[0x55, d1, d2, d3, 0x01]).2

/-- What a well-formed FRAME_SPEED row says of its trailer (40_checksum.md R103). -/
theorem ck_of_frameSpeed_wf {d1 d2 x a : Byte} (h : (Instr.frameSpeed d1 d2 x a).wf = true) :
    ck #v[0x55, d1, d2, 0x00, 0x01] = (x, a) := by
  rw [Instr.wf, Bool.and_eq_true] at h
  exact eq_of_beq h.1

/-- With SPEED_D3 = 0x00 the frame of a well-formed row is the word itself (30_encoding.md R74). -/
theorem commandFrame_toList_of_wf {d1 d2 x a : Byte} (h : (Instr.frameSpeed d1 d2 x a).wf = true) :
    (commandFrame d1 d2 0x00).toList = (encode (.frameSpeed d1 d2 x a)).bytes := by
  rw [commandFrame, ck_of_frameSpeed_wf h]
  rfl

/-- Settles O14: the frame of the joined frequency has the row's own two bytes as its data. -/
theorem speedRowBuildsItsFrame : Obligations.SpeedRowBuildsItsFrame := by
  intro d1 d2 x a s hp
  have hbuf : (idleEffect (.frameSpeed d1 d2 x a) s).txbuf = commandFrame d1 d2 s.cfg.speedD3 :=
    speedFrame_joinBytes s.cfg.speedD3 d1 d2
  refine ⟨_, exec_of_idle _ hp, joinBytes_toNat d1 d2, hbuf, rfl, fun hd hw => ?_⟩
  rw [hbuf, hd, commandFrame_toList_of_wf hw]

/-! ### SET_SPEED (R112 to R115) -/

/-- The frame and FREQ_CMD hold one and the same frequency. -/
theorem setSpeed_frequency (rpm : Rpm) (s : State) :
    (idleEffect (.setSpeed rpm) s).freqCmd.toNat = rpm.toNat / 60 * 100 % 65536 ∧
      (idleEffect (.setSpeed rpm) s).txbuf[2].toNat * 256 + (idleEffect (.setSpeed rpm) s).txbuf[3].toNat =
        rpm.toNat / 60 * 100 % 65536 :=
  ⟨freq16_toNat rpm, (speedFrame_frequency s.cfg.speedD3 (freq16 rpm)).trans (freq16_toNat rpm)⟩

/-- Settles O9: the frequency as computed, the fixed bytes in their places, the trailer by CK, and the rest kept. -/
theorem setSpeedBuildsFrequencyFrame : Obligations.SetSpeedBuildsFrequencyFrame := by
  intro rpm s hp
  obtain ⟨hcmd, hframe⟩ := setSpeed_frequency rpm s
  exact ⟨_, exec_of_idle _ hp, hcmd, hframe, rfl, rfl, rfl, rfl, rfl, rfl,
    commandFrame_add_toNat (hiByte (freq16 rpm)) (loByte (freq16 rpm)) s.cfg.speedD3, rfl, rfl, rfl, rfl, rfl, rfl⟩

/-- 655 hertz is the last frequency whose hundredfold fits 16 bits, and 39359 rpm the last speed below 656 hertz (R114). -/
theorem frequency_exact_iff (n : Nat) : n / 60 * 100 % 65536 = n / 60 * 100 ↔ n ≤ 39359 := by
  omega

/-- Settles O10: arithmetic on the frequency, whose modulus 65536 is itself a multiple of 4. -/
theorem frequencyWrapsFrom39360 : Obligations.FrequencyWrapsFrom39360 := by
  intro rpm s hp
  obtain ⟨hcmd, hframe⟩ := setSpeed_frequency rpm s
  refine ⟨_, exec_of_idle _ hp, rfl, hcmd, hframe, ?_, by omega, ⟨rpm.toNat / 60, hcmd⟩, ?_⟩
  · rw [hcmd, frequency_exact_iff]
  · omega

/-- The frequency depends on the quotient alone (R115). -/
theorem freq16_eq_of_div_eq {r q : Rpm} (h : r.toNat / 60 = q.toNat / 60) : freq16 r = freq16 q := by
  rw [freq16, freq16, h]

/-- Settles O11: equal frequencies build equal frames, and the quotients 0 and 1 give 0 and 100. -/
theorem speedsQuantisedToSixtyRpm : Obligations.SpeedsQuantisedToSixtyRpm := by
  intro r q s t u hp hq ht hu
  obtain rfl := exec_idle hp ht
  obtain rfl := exec_idle hp hu
  have hf := freq16_eq_of_div_eq hq
  obtain ⟨hcmd, -⟩ := setSpeed_frequency r s
  exact ⟨congrArg (speedFrame s.cfg.speedD3) hf, hf, hcmd, by omega, by omega⟩

/-! ### TXBUF over every step (R116) -/

theorem RegistersKept.txbuf {s t : State} (h : RegistersKept s t) : t.txbuf = s.txbuf := by rw [h.frame]

/-- The table never enters TX_ASSERT: acceptance does (10_state.md R35). -/
theorem tablePhase_ne_txAssert (s : State) : tablePhase s ≠ .txAssert := by
  unfold tablePhase
  split <;> (try split_ifs) <;> nofun

/-- From `s` to `t` TXBUF got a built frame, or it is kept and no `send` starts. -/
def BuiltOrKept (s t : State) : Prop :=
  FrameOk t.txbuf ∨ (t.txbuf = s.txbuf ∧ (t.phase = .txAssert → s.phase = .txAssert))

/-- Five rows build a frame; REPORT_SPEED and the drive's frame leave TXBUF and start no `send` (44_controller_ops.md R176,
log 7). -/
theorem idleEffect_builtOrKept (i : Instr) (s : State) : BuiltOrKept s (idleEffect i s) := by
  cases i with
  | turnOn | turnOff | setSpeed | framePowerOn | framePowerOff | frameSpeed => exact .inl (frameOk_commandFrame _ _ _)
  | reportSpeed => exact .inr ⟨rfl, nofun⟩
  | frameStatus => exact .inr ⟨rfl, id⟩

/-- What a step does to TXBUF: reset clears it (log 2), and everything else leaves a built frame or what was there. -/
theorem step_builtOrKept {s t : State} (h : step s = .next t) :
    (nextMove s = .reset ∧ t.phase = .idle) ∨ BuiltOrKept s t := by
  obtain ⟨hr, rfl⟩ | ⟨-, hk⟩ | ⟨-, -, p, rest, i, -, -, -, rfl⟩ | ⟨-, hb⟩ := step_effect h
  · exact .inl ⟨hr, rfl⟩
  · exact .inr (.inr ⟨hk.txbuf, hk.phase.symm.trans⟩)
  · exact .inr (by simpa [BuiltOrKept] using idleEffect_builtOrKept i { moveUsed s with inbox := rest })
  · obtain ⟨-, hbuf, -⟩ := phaseStep_frame hb
    have hphase := (phaseStep_effect hb).phase
    exact .inr (.inr ⟨hbuf.trans (moveUsed_txbuf s), fun ha => absurd (hphase.symm.trans ha) (tablePhase_ne_txAssert _)⟩)

/-- Settles O48: a step that changes TXBUF or enters TX_ASSERT cannot be one that keeps TXBUF and starts no `send`. -/
theorem onlyBuiltFramesAreSent : Obligations.OnlyBuiltFramesAreSent := by
  intro s t h
  obtain ⟨hr, hp⟩ | hf | ⟨hbuf, hphase⟩ := step_builtOrKept h
  · exact ⟨fun _ => .inr hr, fun _ ha => by simp [hp] at ha⟩
  · exact ⟨fun _ => .inl hf, fun _ _ => hf⟩
  · exact ⟨fun hne => absurd hbuf hne, fun hs ha => absurd (hphase ha) hs⟩

end Sys2Proof.Machine
end

section
/-! The invariant over one step. -/

namespace Sys2Proof.Machine

/-- Settles O5, by `step_inv`: reset, a step that keeps the registers, a word an idle block takes, the step of the phase. -/
theorem everyStepKeepsInvariant : Obligations.EveryStepKeepsInvariant := fun _ _ => step_inv

end Sys2Proof.Machine
end

section
/-! TS, the phases of `send` (42_tx_sequencer.md): each as one update of the state, the nine writes from an invariant over the
bytes written so far, and a whole `send` undisturbed. -/

namespace Sys2Proof.Machine

/-! ### One step on the block's turn -/

/-- TX_ASSERT (R126). -/
theorem step_txAssert {s : State} (hb : BlockMoves s) (hp : s.phase = .txAssert) :
    step s = .next { moveUsed s with dir := true, trace := s.trace ++ [.dirAssert], phase := .txSettle } := by
  rw [step_phase hb]
  simp [phaseStep, hp, stepTxAssert, goTo, dirAssert, emit]

/-- TX_SETTLE (R127). -/
theorem step_txSettle {s : State} (hb : BlockMoves s) (hp : s.phase = .txSettle) :
    step s = .next { moveUsed s with idx := 0, trace := s.trace ++ [.delay 1], phase := .txWrite } := by
  rw [step_phase hb]
  simp [phaseStep, hp, stepTxSettle, goTo, delay, emit, Config.tSettle]

/-- TX_WRITE (R128): the byte at IDX handed over, one answer of the oracle used up when it is read. -/
theorem phaseStep_txWrite {s : State} (hp : s.phase = .txWrite) (hi : s.idx.toNat < 9) :
    phaseStep s = .next { s with
      trace := s.trace ++ [.txWrite s.txbuf[s.idx.toNat]], txPort := s.txPort ++ [s.txbuf[s.idx.toNat]]
      txerr := s.txerr || (s.cfg.hasTxErr && writeAnswer s 0), idx := s.idx + 1
      phase := if s.idx.toNat + 1 = 9 then .txDrain else .txWrite
      txErrs := if s.cfg.hasTxErr then s.txErrs.drop 1 else s.txErrs
      freeCtr := if s.cfg.hasTxErr then s.freeCtr + (1 - s.txErrs.length) else s.freeCtr } := by
  simp only [phaseStep, hp, stepTxWrite, dif_pos hi, nextTxByte_eq, txWrite_idx, txWrite_phase, idx_succ_eq_nine,
    writeAnswer_zero]
  cases hc : s.cfg.hasTxErr <;> cases he : s.txErrs <;>
    simp [txWrite, latchWriteError, handOver, emit, oracleUsed, latchTxErr, writeError, hc, he]

/-- TX_DRAIN (R129). -/
theorem step_txDrain {s : State} (hb : BlockMoves s) (hp : s.phase = .txDrain) :
    step s = .next { moveUsed s with trace := s.trace ++ [.delay (tDrain s.cfg)], phase := .txRelease } := by
  rw [step_phase hb]
  simp [phaseStep, hp, stepTxDrain, goTo, delay, emit]

/-- TX_RELEASE (R130). -/
theorem step_txRelease {s : State} (hb : BlockMoves s) (hp : s.phase = .txRelease) :
    step s = .next { moveUsed s with dir := false, trace := s.trace ++ [.dirDeassert], phase := .txGuard } := by
  rw [step_phase hb]
  simp [phaseStep, hp, stepTxRelease, goTo, dirDeassert, emit]

/-- TX_GUARD (R131): the guard wait, and in the same step completion. -/
theorem step_txGuard {s : State} (hb : BlockMoves s) (hp : s.phase = .txGuard) :
    step s = .next (completeSend { moveUsed s with trace := s.trace ++ [.delay 50] }) := by
  rw [step_phase hb]
  simp [phaseStep, hp, stepTxGuard, delay, emit, Config.tGuard]

/-- R133: completion writes the result of the operation and nothing else. -/
theorem completeSend_frame (s : State) :
    completeSend s = { s with
      run := (completeSend s).run, fault := (completeSend s).fault, faultLog := (completeSend s).faultLog
      phase := .idle } := by
  obtain ⟨-, e⟩ | ⟨-, -, e⟩ | ⟨-, -, e⟩ | ⟨-, -, e⟩ := completeSend_cases s <;> simp [e, raiseFault]

/-- Settles O27: the four steps, and the line by R136. -/
theorem lineAndWaitPhases : Obligations.LineAndWaitPhases := fun _ hb =>
  ⟨step_txAssert hb, step_txSettle hb, step_txDrain hb, step_txRelease hb,
    fun hp hi => by rw [hi.line, hp]; rfl⟩

/-- Settles O28: the byte step, from the state with the turn used up. -/
theorem writeStepOffersOneByte : Obligations.WriteStepOffersOneByte := by
  intro s hb hp hi
  refine ⟨_, (step_phase hb).trans (phaseStep_txWrite (by simpa using hp) (by simpa using hi)), ?_⟩
  simpa using idx_succ_toNat s.idx (by omega)

/-- Settles O29: completion, by TXERR and then by OP. -/
theorem guardStepCompletes : Obligations.GuardStepCompletes := by
  intro s hb hp
  rw [step_txGuard hb hp]
  refine ⟨fun he => ?_, fun he ho => ?_, fun he ho => ?_, fun he ho => ?_⟩
  · simp [completeSend, raiseFault, FaultKind.code, he]
  all_goals simp [completeSend, goTo, applyOp, he, ho]

/-! ### The nine writes -/

/-- The state of TX_WRITE entered in `s` once `k` bytes of TXBUF are handed over (R128). -/
def afterWrites (k : Nat) (s : State) : State :=
  { s with
    trace := s.trace ++ (s.txbuf.toList.take k).map .txWrite, txPort := s.txPort ++ s.txbuf.toList.take k
    txerr := s.txerr || (s.cfg.hasTxErr && (List.range k).any (writeAnswer s)), idx := BitVec.ofNat 4 k
    phase := if k = 9 then .txDrain else .txWrite
    txErrs := if s.cfg.hasTxErr then s.txErrs.drop k else s.txErrs
    freeCtr := if s.cfg.hasTxErr then s.freeCtr + (k - s.txErrs.length) else s.freeCtr }

/-- After `k` answers read the next write gets the answer that was `k` writes ahead. -/
theorem writeAnswer_afterWrites {s : State} (hc : s.cfg.hasTxErr = true) (k : Nat) :
    writeAnswer (afterWrites k s) 0 = writeAnswer s k := by
  have hctr : s.freeCtr + (k - s.txErrs.length) + (0 - (s.txErrs.length - k)) = s.freeCtr + (k - s.txErrs.length) := by
    omega
  simp [writeAnswer, afterWrites, hc]

/-- Handing over one more byte. -/
theorem step_afterWrites {s : State} (hu : Undisturbed s) {k : Nat} (hk : k < 9) :
    step (afterWrites k s) = .next (afterWrites (k + 1) s) := by
  have hp : (afterWrites k s).phase = .txWrite := if_neg hk.ne
  have hi : (afterWrites k s).idx.toNat = k := by simp [afterWrites]; omega
  have hu' : Undisturbed (afterWrites k s) := hu
  rw [step_undisturbed hu' (by simp [hp]), phaseStep_txWrite hp (by omega)]
  simp only [hi]
  cases hc : s.cfg.hasTxErr with
  | false => simp [afterWrites, hc, hk, List.take_add_one, BitVec.ofNat_add]
  | true =>
    rw [writeAnswer_afterWrites hc]
    have hctr : s.freeCtr + (k - s.txErrs.length) + (1 - (s.txErrs.length - k)) =
        s.freeCtr + (k + 1 - s.txErrs.length) := by omega
    simp [afterWrites, hc, hk, List.take_add_one, BitVec.ofNat_add, List.range_succ, Bool.or_assoc, hctr]

/-- A run of writes within the frame. -/
theorem steps_afterWrites {s : State} (hu : Undisturbed s) {k : Nat} (hk : k ≤ 9) :
    steps k (afterWrites 0 s) = .next (afterWrites k s) := by
  induction k with
  | zero => rfl
  | succ k ih => rw [steps_add k 1 (ih (by omega)), steps_succ 0 (step_afterWrites hu hk), steps_zero]

/-! ### A whole `send` -/

/-- The state in which the first byte of a `send` begun in `s` is due (R126, R127). -/
def sendOpened (s : State) : State :=
  { s with dir := true, idx := 0, trace := s.trace ++ [.dirAssert, .delay 1], phase := .txWrite }

/-- The state of TX_GUARD after the drain wait and the release from `s`, the guard wait done (R129 to R131). -/
def sendGuarded (s : State) : State :=
  { s with
    dir := false, trace := s.trace ++ [.delay (tDrain s.cfg), .dirDeassert, .delay 50], phase := .txGuard }

theorem steps_sendOpened {s : State} (hu : Undisturbed s) (hp : s.phase = .txAssert) :
    steps 2 s = .next (sendOpened s) := by
  have hassert := step_txAssert (hu.blockMoves (by simp [hp])) hp
  rw [hu.moveUsed_eq] at hassert
  have hu' : Undisturbed { s with dir := true, trace := s.trace ++ [.dirAssert], phase := .txSettle } := hu
  have hsettle := step_txSettle (hu'.blockMoves nofun) rfl
  rw [hu'.moveUsed_eq] at hsettle
  rw [steps_succ 1 hassert, steps_succ 0 hsettle, steps_zero]
  simp [sendOpened]

theorem steps_sendGuarded {s : State} (hu : Undisturbed s) (hp : s.phase = .txDrain) :
    steps 3 s = .next (completeSend (sendGuarded s)) := by
  have hdrain := step_txDrain (hu.blockMoves (by simp [hp])) hp
  rw [hu.moveUsed_eq] at hdrain
  have hu₁ : Undisturbed { s with trace := s.trace ++ [.delay (tDrain s.cfg)], phase := .txRelease } := hu
  have hrelease := step_txRelease (hu₁.blockMoves nofun) rfl
  rw [hu₁.moveUsed_eq] at hrelease
  have hu₂ : Undisturbed { s with
      dir := false, trace := s.trace ++ [.delay (tDrain s.cfg)] ++ [.dirDeassert], phase := .txGuard } := hu
  have hguard := step_txGuard (hu₂.blockMoves nofun) rfl
  rw [hu₂.moveUsed_eq] at hguard
  rw [steps_succ 2 hdrain, steps_succ 1 hrelease, steps_succ 0 hguard, steps_zero]
  simp [sendGuarded]

/-- A `send` that no one disturbs: 2 steps to the first byte, 9 bytes, 3 steps to the end (R126 to R133). -/
theorem steps_send {s : State} (hu : Undisturbed s) (hp : s.phase = .txAssert) :
    steps 14 s = .next (completeSend (sendGuarded (afterWrites 9 (sendOpened s)))) := by
  have hu' : Undisturbed (sendOpened s) := hu
  have h0 : afterWrites 0 (sendOpened s) = sendOpened s := by simp [afterWrites, sendOpened]
  have hwrites := steps_afterWrites hu' (k := 9) le_rfl
  rw [h0] at hwrites
  rw [steps_add 2 12 (steps_sendOpened hu hp), steps_add 9 3 hwrites]
  exact steps_sendGuarded hu' rfl

/-- Settles O30: the three parts' events one after the other; completion emits none. -/
theorem sendEmitsFourteenEvents : Obligations.SendEmitsFourteenEvents := by
  intro s hu hp
  refine ⟨_, steps_send hu hp, ?_⟩
  rw [completeSend_frame]
  exact ⟨by simp [sendEvents, sendGuarded, afterWrites, sendOpened], by simp [sendEvents],
    by simp [sendGuarded, afterWrites, sendOpened], rfl, rfl, rfl⟩

end Sys2Proof.Machine
end

section
/-! T_DRAIN (42_tx_sequencer.md R135) as a ceiling of the library's. -/

namespace Sys2Proof.Machine

theorem tDrain_eq_ceilDiv {c : Config} (h : 0 < c.perByteDen) : tDrain c = 9 * c.perByteNum ⌈/⌉ c.perByteDen := by
  rw [tDrain, Nat.ceilDiv_eq_add_pred_div, Nat.add_sub_assoc h]; rfl

/-- Settles O34: a ceiling is below exactly the numbers its quotient is below. -/
theorem drainWaitIsCeiling : Obligations.DrainWaitIsCeiling := by
  refine ⟨fun c ⟨_, hden⟩ => ?_, rfl, rfl, rfl⟩
  have ceil_le (m : Nat) : tDrain c ≤ m ↔ 9 * c.perByteNum ≤ m * c.perByteDen := by
    rw [tDrain_eq_ceilDiv hden, ceilDiv_le_iff_le_mul hden, Nat.mul_comm m]
  exact ⟨(ceil_le _).1 le_rfl, fun m => (ceil_le m).2⟩

end Sys2Proof.Machine
end

section
/-! Where bytes move (R125, R136, R137; 43_rx_parser.md R145): the events each phase emits and what it takes from the FIFO. -/

namespace Sys2Proof.Machine

theorem writtenBytes_append (es fs : List Event) : writtenBytes (es ++ fs) = writtenBytes es ++ writtenBytes fs :=
  List.filterMap_append

theorem readBytes_append (es fs : List Event) : readBytes (es ++ fs) = readBytes es ++ readBytes fs :=
  List.filterMap_append

theorem writtenBytes_phaseEvents {s : State} (hp : s.phase ≠ .txWrite) : writtenBytes (phaseEvents s) = [] := by
  cases h : s.phase <;> simp only [phaseEvents, h]
  case txWrite => exact absurd h hp
  case rxFlush | rxRead => cases s.rxFifo <;> rfl
  all_goals rfl

/-- A flush check and a byte read take the oldest byte of the FIFO if there is one (43_rx_parser.md R146, R148). -/
theorem readBytes_phaseEvents (s : State) :
    readBytes (phaseEvents s) = if s.phase = .rxFlush ∨ s.phase = .rxRead then s.rxFifo.head?.toList else [] := by
  cases h : s.phase <;> simp only [phaseEvents, h]
  case txWrite => cases s.txbuf[s.idx.toNat]? <;> rfl
  case rxFlush | rxRead => cases s.rxFifo <;> rfl
  all_goals rfl

/-- A read that nothing precedes is RX_READ's. -/
theorem phase_of_lone_rxRead {s : State} {b : Byte} (h : phaseEvents s = [.rxRead b]) : s.phase = .rxRead := by
  cases hp : s.phase <;> simp_all [phaseEvents]

/-- Only a flush check asks whether there is a byte. -/
theorem phase_of_rxReadable_mem {s : State} {a : Bool} (h : .rxReadable a ∈ phaseEvents s) : s.phase = .rxFlush := by
  cases hp : s.phase <;> simp_all [phaseEvents]

@[simp] theorem completeSend_rxFifo (s : State) : (completeSend s).rxFifo = s.rxFifo := by rw [completeSend_frame]

@[simp] theorem awaitByte_rxFifo (s : State) : (awaitByte s).rxFifo = s.rxFifo := by
  obtain ⟨-, e⟩ | ⟨_, -, -, e⟩ | ⟨_, -, -, e⟩ := awaitByte_cases s <;> simp [e]

/-- Phase by phase, in the order of `phaseStep_cases`: the two phases that read take the oldest byte, no other takes any. -/
theorem phaseStep_rxFifo {s t : State} (h : phaseStep s = .next t) :
    t.rxFifo = if s.phase = .rxFlush ∨ s.phase = .rxRead then s.rxFifo.tail else s.rxFifo := by
  rcases phaseStep_cases h with ⟨hp, rfl⟩ | ⟨hp, rfl⟩ | ⟨hp, rfl⟩ | ⟨hp, hi, rfl⟩ | ⟨hp, rfl⟩ | ⟨hp, rfl⟩ | ⟨hp, rfl⟩ |
    ⟨hp, b, rest, hf, rfl⟩ | ⟨hp, hf, rfl⟩ | ⟨hp, b, rest, hf, hi, rfl⟩ | ⟨hp, hf, rfl⟩ | ⟨hp, -, -, rfl⟩ | ⟨hp, -, rfl⟩
  all_goals simp [nextTxByte_eq, nextRxByte_eq, *]

/-- A word an idle block takes brings bytes into the FIFO if any (log 7). -/
theorem length_rxFifo_le_idleEffect (i : Instr) (s : State) : s.rxFifo.length ≤ (idleEffect i s).rxFifo.length := by
  cases i with
  | frameStatus => simp [idleEffect]
  | turnOn | turnOff | setSpeed | reportSpeed | framePowerOn | framePowerOff | frameSpeed => exact le_rfl

/-- A presented word never takes a byte from the FIFO. -/
theorem length_rxFifo_le_exec {i : Instr} {s t : State} (h : exec i s = .next t) : s.rxFifo.length ≤ t.rxFifo.length := by
  obtain ⟨-, rfl⟩ | ⟨-, rfl⟩ | ⟨-, -, rfl⟩ := exec_cases h
  · exact length_rxFifo_le_idleEffect i s
  · exact length_rxFifo_le_idleEffect i s
  · exact le_rfl

/-- On the block's turn only the step of the phase takes a byte from the FIFO. -/
theorem step_shortens_rxFifo {s t : State} (hm : nextMove s = .block) (h : step s = .next t)
    (hl : t.rxFifo.length < s.rxFifo.length) : phaseStep (moveUsed s) = .next t := by
  obtain ⟨hn, -⟩ | ⟨-, p, rest, i, -, -, -, he⟩ | ⟨-, p, rest, e, -, -, -, rfl⟩ | ⟨-, hb⟩ := step_cases h
  · exact absurd hm hn
  · have hle : s.rxFifo.length ≤ t.rxFifo.length := by simpa using length_rxFifo_le_exec he
    omega
  · simp [unmatched_eq] at hl
  · exact hb

theorem phaseEvents_moveUsed (s : State) : phaseEvents (moveUsed s) = phaseEvents s := by simp [phaseEvents]

/-- Whatever a step appends to the trace its phase emitted. -/
theorem phaseEvents_of_step {s t : State} (h : step s = .next t) {e : Event} {es : List Event}
    (ht : t.trace = s.trace ++ e :: es) : phaseEvents s = e :: es := by
  obtain hk | ⟨-, hp⟩ := step_trace h
  · simp [hk] at ht
  · rw [phaseEvents_moveUsed, ht] at hp
    exact (List.append_cancel_left hp).symm

theorem phase_of_step_writes {s t : State} (h : step s = .next t)
    (hw : writtenBytes t.trace ≠ writtenBytes s.trace) : s.phase = .txWrite := by
  by_contra hn
  obtain hk | ⟨-, hp⟩ := step_trace h
  · exact hw (by rw [hk])
  · exact hw (by rw [hp, phaseEvents_moveUsed, writtenBytes_append, writtenBytes_phaseEvents hn, List.append_nil])

theorem phase_of_step_reads {s t : State} (h : step s = .next t) (hr : readBytes t.trace ≠ readBytes s.trace) :
    s.phase = .rxFlush ∨ s.phase = .rxRead := by
  by_contra hn
  obtain hk | ⟨-, hp⟩ := step_trace h
  · exact hr (by rw [hk])
  · exact hr (by rw [hp, phaseEvents_moveUsed, readBytes_append, readBytes_phaseEvents, if_neg hn, List.append_nil])

/-- A phase that shortens the FIFO reads its oldest byte. -/
theorem phaseStep_takes_oldest {s t : State} (h : phaseStep s = .next t) (hl : t.rxFifo.length < s.rxFifo.length) :
    (s.phase = .rxFlush ∨ s.phase = .rxRead) ∧
      ∃ b, s.rxFifo = b :: t.rxFifo ∧ readBytes t.trace = readBytes s.trace ++ [b] := by
  have hfifo := phaseStep_rxFifo h
  by_cases hp : s.phase = .rxFlush ∨ s.phase = .rxRead
  · rw [if_pos hp] at hfifo
    refine ⟨hp, ?_⟩
    rw [phaseStep_trace h, readBytes_append, readBytes_phaseEvents, if_pos hp, hfifo]
    cases hs : s.rxFifo with
    | nil => simp [hs] at hl
    | cons b rest => exact ⟨b, rfl, rfl⟩
  · rw [if_neg hp] at hfifo
    simp [hfifo] at hl

/-- While the block listens the line is not asserted (R136). -/
theorem Inv.dir_of_reading {s : State} (hi : Inv s) (hp : s.phase = .rxFlush ∨ s.phase = .rxRead) : s.dir = false := by
  rw [hi.line]
  obtain hp | hp := hp <;> rw [hp] <;> rfl

/-- Settles O56: the phase from the events it emits and from what it takes, the line by the invariant. -/
theorem bytesMoveOnlyInTheirPhases : Obligations.BytesMoveOnlyInTheirPhases := by
  intro s t hi h
  refine ⟨fun hw => ?_, fun hr => ?_, fun hm hl => ?_, fun b ht => ?_, fun b ht => ?_⟩
  · have hp := phase_of_step_writes h hw
    exact ⟨hp, by rw [hi.line, hp]; rfl⟩
  · have hp := phase_of_step_reads h hr
    exact ⟨hp, hi.dir_of_reading hp⟩
  · obtain ⟨hp, htaken⟩ := phaseStep_takes_oldest (step_shortens_rxFifo hm h hl) (by simpa using hl)
    simp only [moveUsed_phase, moveUsed_rxFifo, moveUsed_trace] at hp htaken
    exact ⟨hp, hi.dir_of_reading hp, htaken⟩
  · have hp := phase_of_lone_rxRead (phaseEvents_of_step h ht)
    exact ⟨hp, hi.dir_of_reading (.inr hp)⟩
  · have hp : s.phase = .rxFlush := phase_of_rxReadable_mem (a := true) (by simp [phaseEvents_of_step h ht])
    exact ⟨hp, hi.dir_of_reading (.inl hp)⟩

end Sys2Proof.Machine
end

section
/-! The drain phase (43_rx_parser.md R146, R147): one check as one update of the state, the drain of what is buffered by
induction over it, and rounds of an arrival and a check, of which no number ends the phase. -/

namespace Sys2Proof.Machine

/-- A check that finds a byte discards it and stays (R146). -/
theorem phaseStep_rxFlush_byte {s : State} {b : Byte} {rest : List Byte} (hp : s.phase = .rxFlush)
    (hf : s.rxFifo = b :: rest) :
    phaseStep s = .next { s with rxFifo := rest, trace := s.trace ++ [.rxReadable true, .rxRead b] } := by
  simp [phaseStep, hp, stepRxFlush, hf, rxRead, rxReadable, emit]

/-- A check that finds none enters RX_READ (R146, 60_exceptions.md R202). -/
theorem phaseStep_rxFlush_empty {s : State} (hp : s.phase = .rxFlush) (hf : s.rxFifo = []) :
    phaseStep s = .next { s with trace := s.trace ++ [.rxReadable false], idx := 0, rxTimer := 0, phase := .rxRead } := by
  simp [phaseStep, hp, stepRxFlush, hf, rxReadable, emit, goTo]

theorem step_rxFlush_byte {s : State} {b : Byte} {rest : List Byte} (hb : BlockMoves s) (hp : s.phase = .rxFlush)
    (hf : s.rxFifo = b :: rest) :
    step s = .next { moveUsed s with rxFifo := rest, trace := s.trace ++ [.rxReadable true, .rxRead b] } := by
  rw [step_phase hb, phaseStep_rxFlush_byte (by simpa using hp) (by simpa using hf), moveUsed_trace]

theorem step_rxFlush_empty {s : State} (hb : BlockMoves s) (hp : s.phase = .rxFlush) (hf : s.rxFifo = []) :
    step s = .next { moveUsed s with
      trace := s.trace ++ [.rxReadable false], idx := 0, rxTimer := 0, phase := .rxRead } := by
  rw [step_phase hb, phaseStep_rxFlush_empty (by simpa using hp) (by simpa using hf), moveUsed_trace]

theorem flushEvents_nil : flushEvents [] = [.rxReadable false] := rfl

theorem flushEvents_cons (b : Byte) (rest : List Byte) :
    flushEvents (b :: rest) = [.rxReadable true, .rxRead b] ++ flushEvents rest := rfl

/-- The whole drain phase, byte by byte of what is buffered: each byte has its check, and one more finds none (R146). -/
theorem steps_rxFlush {stale : List Byte} {s : State} (hu : Undisturbed s) (hp : s.phase = .rxFlush)
    (hf : s.rxFifo = stale) :
    steps (stale.length + 1) s = .next { s with
      rxFifo := [], trace := s.trace ++ flushEvents stale, idx := 0, rxTimer := 0, phase := .rxRead } := by
  induction stale generalizing s with
  | nil =>
    have hcheck := (step_undisturbed hu (by simp [hp])).trans (phaseStep_rxFlush_empty hp hf)
    rw [List.length_nil, steps_succ 0 hcheck, steps_zero, hf, flushEvents_nil]
  | cons b rest ih =>
    have hcheck := (step_undisturbed hu (by simp [hp])).trans (phaseStep_rxFlush_byte hp hf)
    have hu' : Undisturbed { s with rxFifo := rest, trace := s.trace ++ [.rxReadable true, .rxRead b] } := hu
    rw [List.length_cons, steps_succ _ hcheck, ih hu' hp rfl, flushEvents_cons, ← List.append_assoc]

/-- Settles O35: the two answers of a check, and the drain of all that is buffered. -/
theorem flushDiscardsStaleBytes : Obligations.FlushDiscardsStaleBytes :=
  ⟨fun _ hb hp => ⟨fun _ _ => step_rxFlush_byte hb hp, step_rxFlush_empty hb hp⟩, fun _ hu hp => steps_rxFlush hu hp rfl⟩

/-! ### A byte stream that never pauses -/

/-- A byte arrives before every turn of the block, for ever (log 9), and no status frame waits to be taken. -/
def StreamNeverPauses (b : Byte) (s : State) : Prop :=
  s.schedule = [] ∧ s.beyond = .recurs (.rxArrive b) [.block] ∧ ∀ p ∈ s.inbox.head?, p.fmt ≠ .statFrame

/-- The arrival: the byte joins the FIFO, and the block's turn is next. -/
theorem StreamNeverPauses.step_arrives {b : Byte} {s : State} (h : StreamNeverPauses b s) :
    step s = .next { s with rxFifo := s.rxFifo ++ [b], schedule := [.block] } := by
  obtain ⟨hs, hb, -⟩ := h
  rw [step_environment (nextMove_recurs hs hb) nofun, moveUsed_recurs hs hb]
  rfl

/-- One round in RX_FLUSH: the check after the arrival finds a byte, so it discards the oldest one and stays (R147). -/
theorem StreamNeverPauses.steps_round {b : Byte} {s : State} (h : StreamNeverPauses b s) (hp : s.phase = .rxFlush) :
    ∃ c rest, s.rxFifo ++ [b] = c :: rest ∧
      steps 2 s = .next { s with rxFifo := rest, trace := s.trace ++ [.rxReadable true, .rxRead c] } := by
  have ⟨hs, _, hw⟩ := h
  obtain ⟨c, rest, hf⟩ := List.exists_cons_of_ne_nil (List.append_ne_nil_of_right_ne_nil s.rxFifo (List.cons_ne_nil b []))
  have hb : BlockMoves { s with rxFifo := s.rxFifo ++ [b], schedule := [.block] } :=
    ⟨rfl, fun p hi => (takes_eq_false p _).2 ⟨hw p hi, by simp [hp]⟩⟩
  have hcheck := step_rxFlush_byte hb hp hf
  rw [moveUsed_scheduled rfl] at hcheck
  refine ⟨c, rest, hf, ?_⟩
  rw [steps_succ 1 h.step_arrives, steps_succ 0 hcheck, steps_zero, ← hs]

/-- Any number of rounds reaches the FIFO and the trace alone, and the FIFO is as long as before. -/
theorem StreamNeverPauses.steps_rounds {b : Byte} {s : State} (h : StreamNeverPauses b s) (hp : s.phase = .rxFlush)
    (n : Nat) : ∃ fifo trace, steps (2 * n) s = .next { s with rxFifo := fifo, trace := trace } ∧
      fifo.length = s.rxFifo.length ∧ trace.length = s.trace.length + 2 * n := by
  induction n with
  | zero => exact ⟨s.rxFifo, s.trace, rfl, rfl, rfl⟩
  | succ n ih =>
    obtain ⟨fifo, trace, hrun, hfifo, htrace⟩ := ih
    have h' : StreamNeverPauses b { s with rxFifo := fifo, trace := trace } := h
    obtain ⟨c, rest, hf, hround⟩ := h'.steps_round hp
    refine ⟨rest, trace ++ [.rxReadable true, .rxRead c], (steps_add (2 * n) 2 hrun).trans hround, ?_, ?_⟩
    · have hlen := congrArg List.length hf
      simp only [List.length_append, List.length_cons, List.length_nil] at hlen
      omega
    · simp [htrace]; omega

/-- Settles O43: the rounds write nothing but the FIFO and the trace, so PHASE stays RX_FLUSH. -/
theorem endlessStreamDrainsForever : Obligations.EndlessStreamDrainsForever := by
  intro s b hs hb hi hp n
  have h : StreamNeverPauses b s := ⟨hs, hb, hi⟩
  obtain ⟨fifo, trace, hrun, hfifo, htrace⟩ := h.steps_rounds hp n
  exact ⟨_, hrun, hp, (busy_eq_true _).2 (by simp [hp]), rfl, rfl, rfl, hfifo, htrace⟩

end Sys2Proof.Machine
end

section
/-! RX_READ (43_rx_parser.md R148, R149): the byte step on the block's turn, and the wait on an empty FIFO up to its bound. -/

namespace Sys2Proof.Machine

theorem step_rxRead_byte {s : State} {b : Byte} {rest : List Byte} (hb : BlockMoves s) (hp : s.phase = .rxRead)
    (hf : s.rxFifo = b :: rest) (hi : s.idx.toNat < 13) :
    step s = .next { moveUsed s with
      rxFifo := rest, trace := s.trace ++ [.rxRead b], rxbuf := s.rxbuf.set s.idx.toNat b, idx := s.idx + 1
      phase := if s.idx.toNat + 1 = 13 then .rxDecode else .rxRead } := by
  rw [step_phase hb, phaseStep_rxRead (by simpa using hp) (by simpa using hf) (by simpa using hi)]
  simp

/-- On an empty FIFO RX_READ waits (R148, R149). -/
theorem phaseStep_rxRead_empty {s : State} (hp : s.phase = .rxRead) (hf : s.rxFifo = []) :
    phaseStep s = .next (awaitByte s) := by
  simp [phaseStep, hp, stepRxRead, hf]

/-- Without a bound the wait changes nothing (R148). -/
theorem awaitByte_of_no_bound {s : State} (hl : s.cfg.rxTimeout = none) : awaitByte s = s := by
  simp [awaitByte, timedOut, hl]

/-- Below the bound a held step lets one millisecond pass (log 11). -/
theorem awaitByte_of_lt {s : State} {limit : Nat} (hl : s.cfg.rxTimeout = some limit) (ht : s.rxTimer < limit) :
    awaitByte s = { s with rxTimer := s.rxTimer + 1 } := by
  simp [awaitByte, timedOut, hl, ht]

/-- At the bound the wait ends in ResponseTimeout (R149). -/
theorem awaitByte_of_le {s : State} {limit : Nat} (hl : s.cfg.rxTimeout = some limit) (ht : limit ≤ s.rxTimer) :
    awaitByte s = raiseFault .responseTimeout s := by
  simp [awaitByte, timedOut, hl, ht]

/-- Settles O36: the byte step, and the wait without a bound. -/
theorem readStepTakesOneByte : Obligations.ReadStepTakesOneByte := by
  refine ⟨fun _ _ _ => step_rxRead_byte, fun s hb hp hf hl => ?_⟩
  rw [step_phase hb, phaseStep_rxRead_empty (by simpa using hp) (by simpa using hf),
    awaitByte_of_no_bound (by simpa using hl)]

/-- Undisturbed on an empty FIFO, a step below the bound is held (log 11). -/
theorem step_rxRead_held {s : State} {limit : Nat} (hu : Undisturbed s) (hp : s.phase = .rxRead) (hf : s.rxFifo = [])
    (hl : s.cfg.rxTimeout = some limit) (ht : s.rxTimer < limit) :
    step s = .next { s with rxTimer := s.rxTimer + 1 } := by
  rw [step_undisturbed hu (by simp [hp]), phaseStep_rxRead_empty hp hf, awaitByte_of_lt hl ht]

/-- The timeout step, at the bound (R149). -/
theorem step_rxRead_timeout {s : State} {limit : Nat} (hu : Undisturbed s) (hp : s.phase = .rxRead) (hf : s.rxFifo = [])
    (hl : s.cfg.rxTimeout = some limit) (ht : limit ≤ s.rxTimer) : step s = .next (raiseFault .responseTimeout s) := by
  rw [step_undisturbed hu (by simp [hp]), phaseStep_rxRead_empty hp hf, awaitByte_of_le hl ht]

/-- A silent drive up to the bound: the timer counts the steps, and nothing else changes (log 11). -/
theorem steps_awaitByte {s : State} {limit : Nat} (hu : Undisturbed s) (hp : s.phase = .rxRead) (hf : s.rxFifo = [])
    (h0 : s.rxTimer = 0) (hl : s.cfg.rxTimeout = some limit) {k : Nat} (hk : k ≤ limit) :
    steps k s = .next { s with rxTimer := k } := by
  induction k with
  | zero => rw [steps_zero, ← h0]
  | succ k ih =>
    have hu' : Undisturbed { s with rxTimer := k } := hu
    rw [steps_add k 1 (ih (by omega)), steps_succ 0 (step_rxRead_held hu' hp hf hl hk), steps_zero]

/-- Settles O44: as many held steps as the bound says, then the timeout step. -/
theorem silentDriveTimesOut : Obligations.SilentDriveTimesOut := by
  intro s limit hu hp hf h0 hl
  have hu' : Undisturbed { s with rxTimer := limit } := hu
  refine ⟨raiseFault .responseTimeout { s with rxTimer := limit }, ?_, rfl, rfl, rfl, rfl, rfl, rfl⟩
  rw [steps_add limit 1 (steps_awaitByte hu hp hf h0 hl le_rfl),
    steps_succ 0 (step_rxRead_timeout hu' hp hf hl le_rfl), steps_zero]

end Sys2Proof.Machine
end

section
/-! RX_DECODE (43_rx_parser.md R150 to R156): the two ends of the step, and the results on natural numbers. -/

namespace Sys2Proof.Machine

/-- The fixed-byte check, byte by byte (R151). -/
theorem fixedBytesOk_iff (rx : Vector Byte 13) :
    fixedBytesOk rx = true ↔ rx[0] = 0x00 ∧ rx[1] = 0x55 ∧ rx[8] = 0x01 ∧ rx[9] = 0x00 ∧ rx[12] = 0xFF := by
  simp [fixedBytesOk, and_assoc]

/-- A frame that fails a configured check ends in ProtocolFramingError (R151). -/
theorem step_rxDecode_fails {s : State} (hb : BlockMoves s) (hp : s.phase = .rxDecode)
    (hc : s.cfg.rxCheckFixed = true) (hf : fixedBytesOk s.rxbuf = false) :
    step s = .next { moveUsed s with
      fault := 1, faultLog := s.faultLog ++ [.protocolFramingError], phase := .idle } := by
  rw [step_rxDecode hb hp, if_pos ⟨hc, hf⟩, raiseFault, moveUsed_faultLog]
  rfl

/-- Any other frame gives the results (R152, R154, R155). -/
theorem step_rxDecode_passes {s : State} (hb : BlockMoves s) (hp : s.phase = .rxDecode)
    (hok : s.cfg.rxCheckFixed = false ∨ fixedBytesOk s.rxbuf = true) :
    step s = .next { moveUsed s with
      freqRaw := decodeFreq s.rxbuf, rpm := speedOf (decodeFreq s.rxbuf), phase := .idle } := by
  have hn : ¬ (s.cfg.rxCheckFixed = true ∧ fixedBytesOk s.rxbuf = false) := by
    rintro ⟨hc, hf⟩
    simp [hc, hf] at hok
  rw [step_rxDecode hb hp, if_neg hn]
  simp [goTo]

/-- RPM of a received frame: divide before multiply, and nothing wraps (R154). -/
theorem speedOf_decodeFreq_toNat (rx : Vector Byte 13) :
    (speedOf (decodeFreq rx)).toNat = digitSum rx / 100 / 100 * 60 := by
  rw [speedOf_toNat, decodeFreq_toNat]

/-- Settles O38: by the check, with the results on natural numbers. -/
theorem decodeStepChecksAndConverts : Obligations.DecodeStepChecksAndConverts := by
  intro s hb hp
  simp only [← fixedBytesOk_iff]
  refine ⟨fun hc hf => step_rxDecode_fails hb hp hc (by simpa using hf), fun hok => ?_⟩
  exact ⟨_, step_rxDecode_passes hb hp hok, decodeFreq_toNat s.rxbuf, speedOf_decodeFreq_toNat s.rxbuf, rfl, rfl⟩

/-- With digits the hundreds of the weighted sum are the first three of them, in decimal (R153). -/
theorem digitSum_div_hundred {rx : Vector Byte 13} (h5 : rx[5].toNat ≤ 9) (h6 : rx[6].toNat ≤ 9) :
    digitSum rx / 100 = 100 * rx[2].toNat + 10 * rx[3].toNat + rx[4].toNat := by
  simp only [digitSum]; omega

/-- Settles O39: the last two digits stay below the first division, the second and third below the other. -/
theorem digitsReportHundredsOnly : Obligations.DigitsReportHundredsOnly := by
  intro s t hb hp hok h2 h3 h4 h5 h6 h
  rw [step_rxDecode_passes hb hp hok] at h
  injection h with h
  subst h
  have hraw := digitSum_div_hundred h5 h6
  have hrpm : (speedOf (decodeFreq s.rxbuf)).toNat = 60 * s.rxbuf[2].toNat := by
    rw [speedOf_decodeFreq_toNat, hraw]; omega
  exact ⟨(decodeFreq_toNat s.rxbuf).trans hraw, hrpm, hrpm.trans_le (by omega)⟩

end Sys2Proof.Machine
end

section
/-! SC (44_controller_ops.md): acceptance by an idle block and holding by a busy one (R171), what a step is (30_encoding.md R70,
00_scope.md R11), that no operation reads RUN (R177), and what the host reads (R170, R179). -/

namespace Sys2Proof.Machine

/-! ### Acceptance (R171) -/

/-- Settles O16: the row's effect, its frame with the trailer CK computes. -/
theorem turnOnIsAccepted : Obligations.TurnOnIsAccepted := fun arg _ hp => exec_of_idle (.turnOn arg) hp

/-- Settles O17: the row's effect, its frame with the trailer CK computes. -/
theorem turnOffIsAccepted : Obligations.TurnOffIsAccepted := fun arg _ hp => exec_of_idle (.turnOff arg) hp

/-- Settles O18: the row's effect, which builds no frame. -/
theorem reportSpeedIsAccepted : Obligations.ReportSpeedIsAccepted := fun arg _ hp => exec_of_idle (.reportSpeed arg) hp

theorem ofHostOp_format (o : HostOp) (arg : Rpm) : (Instr.ofHostOp o arg).format = .hostCmd := by cases o <;> rfl

/-- A busy block holds every word but the drive's (log 17). -/
theorem exec_of_busy {i : Instr} {s : State} (hf : i.format ≠ .statFrame) (hp : s.phase ≠ .idle) :
    exec i s = .next (hold (encode i) s) := by
  rw [exec_eq, if_neg (by simp [hp, hf])]

/-- While the block is busy its turn is the step of its phase, whatever the host presented. -/
theorem blockMoves_of_busy {s : State} (hm : nextMove s = .block) (hp : s.phase ≠ .idle)
    (hw : ∀ p ∈ s.inbox.head?, p.fmt ≠ .statFrame) : BlockMoves s :=
  ⟨hm, fun p hi => (takes_eq_false p s).2 ⟨hw p hi, hp⟩⟩

/-- Settles O19: the effect of each operation on an idle block; held, it stays in front of the queue because a phase writes
neither the queue nor OP nor ARG. -/
theorem acceptanceOnlyWhenIdle : Obligations.AcceptanceOnlyWhenIdle := by
  refine ⟨fun o arg s hp => ⟨_, exec_of_idle _ hp, ?_⟩, fun o arg s hp => ?_, ?_, ?_⟩
  · cases o with
    | turnOn | turnOff | reportSpeed => exact ⟨rfl, rfl, rfl, rfl, rfl, rfl⟩
    | setSpeed => exact ⟨rfl, rfl, rfl, rfl, rfl, rfl, rfl⟩
  · exact exec_of_busy (by simp [ofHostOp_format]) hp
  · intro p rest s t hp hm hi hf h
    rw [step_phase (blockMoves_of_busy hm hp (by simp [hi, hf]))] at h
    obtain ⟨-, -, hop, harg, -, -, -, hin, -⟩ := phaseStep_frame h
    simp [hop, harg, hin]
  · intro p rest s hm hi
    rw [step_environment hm nofun, environment, moveUsed_inbox, hi, List.tail_cons]

/-! ### What a step is -/

/-- A free environment counts its moves (log 9). -/
theorem moveUsed_free {s : State} (h : s.schedule = []) (hb : s.beyond = .free) :
    moveUsed s = { s with freeCtr := s.freeCtr + 1 } := by
  simp [moveUsed, h, hb]

/-- Settles O26: by whose turn it is, whether the block takes the word, and whether a row matches it. -/
theorem stepRunsDecodedInstruction : Obligations.StepRunsDecodedInstruction := by
  refine ⟨fun s p rest hm hi ht => ?_, fun s hm hw => ?_, fun _ _ => step_environment, ?_, ?_, fun _ => moveUsed_free⟩
  · have ht := (takes_eq_true p s).2 ht
    refine ⟨fun i hd => step_runs hm hi hd ht, fun e hd => ?_⟩
    rw [step_unmatched hm hi hd ht, unmatched_eq, moveUsed_rxFifo]
  · exact step_phase ⟨hm, fun p hp => (takes_eq_false p s).2 (hw p hp)⟩
  · exact fun _ _ _ h => ⟨nextMove_scheduled h, moveUsed_scheduled h⟩
  · exact fun _ _ _ h hb => ⟨nextMove_recurs h hb, moveUsed_recurs h hb⟩

/-! ### RUN decides nothing (R177, 10_state.md R21) -/

theorem idleEffect_setRun (i : Instr) (s : State) (b : Bool) :
    idleEffect i { s with run := b } = { idleEffect i s with run := b } := by
  cases i <;> rfl

theorem exec_setRun {i : Instr} {s t : State} (b : Bool) (h : exec i s = .next t) :
    exec i { s with run := b } = .next { t with run := b } := by
  rw [exec_eq] at h ⊢
  injection h with h
  rw [← h, idleEffect_setRun]
  congr 1
  split_ifs <;> rfl

theorem awaitByte_setRun (s : State) (b : Bool) : awaitByte { s with run := b } = { awaitByte s with run := b } := by
  unfold awaitByte
  dsimp only
  split_ifs <;> rfl

/-- No phase but completion has RUN among what it reads or writes: phase by phase, in the order of `phaseStep_cases`. -/
theorem phaseStep_setRun {s t : State} (b : Bool) (hg : s.phase ≠ .txGuard) (h : phaseStep s = .next t) :
    phaseStep { s with run := b } = .next { t with run := b } := by
  have of_eq {u : State} (hu : phaseStep s = .next u) (hb : phaseStep { s with run := b } = .next { u with run := b }) :
      phaseStep { s with run := b } = .next { t with run := b } := by
    rw [hu] at h
    cases h
    exact hb
  rcases phaseStep_cases h with ⟨hp, rfl⟩ | ⟨hp, rfl⟩ | ⟨hp, rfl⟩ | ⟨hp, hi, -⟩ | ⟨hp, rfl⟩ | ⟨hp, rfl⟩ | ⟨hp, -⟩ |
    ⟨hp, c, rest, hf, -⟩ | ⟨hp, hf, -⟩ | ⟨hp, c, rest, hf, hi, -⟩ | ⟨hp, hf, -⟩ | ⟨hp, hc, hb, rfl⟩ | ⟨hp, hc, rfl⟩
  · simp [phaseStep, hp]
  · simp [phaseStep, hp, stepTxAssert, goTo, dirAssert, emit]
  · simp [phaseStep, hp, stepTxSettle, goTo, delay, emit]
  · exact of_eq (phaseStep_txWrite hp hi) (phaseStep_txWrite (s := { s with run := b }) hp hi)
  · simp [phaseStep, hp, stepTxDrain, goTo, delay, emit]
  · simp [phaseStep, hp, stepTxRelease, goTo, dirDeassert, emit]
  · exact absurd hp hg
  · exact of_eq (phaseStep_rxFlush_byte hp hf) (phaseStep_rxFlush_byte (s := { s with run := b }) hp hf)
  · exact of_eq (phaseStep_rxFlush_empty hp hf) (phaseStep_rxFlush_empty (s := { s with run := b }) hp hf)
  · exact of_eq (phaseStep_rxRead hp hf hi) (phaseStep_rxRead (s := { s with run := b }) hp hf hi)
  · refine of_eq (phaseStep_rxRead_empty hp hf) ?_
    rw [← awaitByte_setRun]
    exact phaseStep_rxRead_empty (s := { s with run := b }) hp hf
  · simp [phaseStep, hp, stepRxDecode, hc, hb, raiseFault]
  · obtain hc | hc := hc <;> simp [phaseStep, hp, stepRxDecode, hc, goTo]

/-- Completion may write RUN; the power operations write it whatever it was (R173, R174). -/
theorem completeSend_setRun (s : State) (b : Bool) :
    completeSend { s with run := b } = { completeSend s with run := (completeSend { s with run := b }).run } := by
  unfold completeSend applyOp
  dsimp only
  split_ifs
  · rfl
  · split <;> rfl

theorem completeSend_run_of_power {s : State} (he : s.txerr = false) (ho : s.op = .turnOn ∨ s.op = .turnOff) (b : Bool) :
    (completeSend { s with run := b }).run = (completeSend s).run := by
  obtain ho | ho := ho <;> simp [completeSend, applyOp, he, ho]

/-- Settles O47: the words and the phases up to completion write the same whatever RUN is, and completion does but for
RUN. -/
theorem runDecidesNothing : Obligations.RunDecidesNothing := by
  refine ⟨fun i s t b => exec_setRun b, fun s t b h => ?_⟩
  by_cases hg : s.phase = .txGuard
  · simp only [phaseStep, hg] at h
    cases h
    refine ⟨completeSend (delay Config.tGuard { s with run := b }), by simp [phaseStep, hg, stepTxGuard], ?_, ?_⟩
    · exact completeSend_setRun (delay Config.tGuard s) b
    · exact fun _ he ho => completeSend_run_of_power (s := delay Config.tGuard s) he ho b
  · exact ⟨_, phaseStep_setRun b hg h, rfl, fun hp => absurd hp hg⟩

/-! ### What the host reads (R170, R179) -/

/-- The value a host read records is the register's wherever it is specified. -/
theorem hostRead_records (r : HostReg) (s : State) :
    ∃ v, (hostRead r s).hostLog = s.hostLog ++ [(r, v)] ∧ (readSpecified r s = true → v = registerValue r s) := by
  unfold hostRead
  split_ifs with hr
  · exact ⟨_, rfl, fun _ => rfl⟩
  · exact ⟨_, rfl, fun h => absurd h hr⟩

theorem registerValue_busy (s : State) : registerValue .busy s = if s.phase = .idle then 0 else 1 := by
  cases h : s.phase <;> simp [registerValue, State.busy, bit, h]

/-- Settles O60: the read is specified in IDLE, and for BUSY at any time. -/
theorem hostReadsRegisters : Obligations.HostReadsRegisters := by
  intro r s hm
  obtain ⟨v, hlog, hv⟩ := hostRead_records r (moveUsed s)
  refine ⟨hostRead r (moveUsed s), v, step_environment hm nofun, by simpa using hlog, hostRead_frame r _, fun hp => ?_, ?_⟩
  · have hv := hv (by simp [readSpecified, State.busy, hp])
    cases r with
    | busy => simpa [registerValue_busy, hp] using hv
    | run | freqCmd | freqRaw | rpm => simpa [registerValue, bit] using hv
    | rxbuf i => rw [hv, registerValue, moveUsed_rxbuf]; exact BitVec.toNat_setWidth_of_le (by decide)
    | fault => rw [hv, registerValue, moveUsed_fault]; exact BitVec.toNat_setWidth_of_le (by decide)
  · rintro rfl
    rw [hv (by simp [readSpecified]), registerValue_busy, moveUsed_phase]

end Sys2Proof.Machine
end

section
/-! The transmitting operations as wholes (44_controller_ops.md R173 to R175): the acceptance, then a `send` that no one
disturbs. -/

namespace Sys2Proof.Machine

/-! ### The step that accepts -/

theorem canon_ofHostOp (o : HostOp) (arg : Rpm) : (Instr.ofHostOp o arg).canon = .ofHostOp o arg := by cases o <;> rfl

/-- On its turn an idle block accepts the operation in front of the queue (R171). -/
theorem step_accepts {o : HostOp} {arg : Rpm} {s : State} {rest : List Presented} (hm : nextMove s = .block)
    (hp : s.phase = .idle) (hi : s.inbox = encode (.ofHostOp o arg) :: rest) :
    step s = .next (idleEffect (.ofHostOp o arg) { moveUsed s with inbox := rest }) := by
  have hd : decode (encode (.ofHostOp o arg)) = .ok (.ofHostOp o arg) := by rw [decode_encode, canon_ofHostOp]
  rw [step_runs hm hi (decodeFor_of_decode hd) ((takes_eq_true _ s).2 (.inr hp))]
  exact exec_of_idle _ (by simpa using hp)

/-! ### The result of a `send` -/

/-- What a `send` begun in `s` with TXERR clear has done at its end in `t` (42_tx_sequencer.md R132, R133). -/
structure SendResult (s t : State) : Prop where
  trace : t.trace = s.trace ++ sendEvents s.cfg s.txbuf
  run : t.run = if sendFails s then s.run else (applyOp s).run
  fault : t.fault = if sendFails s then 2 else s.fault
  frame : t = { s with
    fault := t.fault, txerr := t.txerr, dir := false, phase := .idle, idx := t.idx, run := t.run, trace := t.trace
    txPort := t.txPort, faultLog := t.faultLog, txErrs := t.txErrs, freeCtr := t.freeCtr }

theorem applyOp_frame (s : State) : applyOp s = { s with run := (applyOp s).run } := by
  unfold applyOp; split <;> rfl

/-- The operation's result depends on OP and RUN alone. -/
theorem applyOp_run_congr {s u : State} (ho : s.op = u.op) (hr : s.run = u.run) : (applyOp s).run = (applyOp u).run := by
  simp only [applyOp, ho]
  split <;> simp [hr]

theorem completeSend_run (s : State) : (completeSend s).run = if s.txerr then s.run else (applyOp s).run := by
  unfold completeSend; split_ifs <;> rfl

theorem completeSend_fault (s : State) : (completeSend s).fault = if s.txerr then 2 else s.fault := by
  unfold completeSend
  split_ifs
  · rfl
  · rw [applyOp_frame]; rfl

/-- TXERR decides how a `send` completes, and it latches whether a write failed. -/
theorem steps_send_result {s : State} (hu : Undisturbed s) (hp : s.phase = .txAssert) (he : s.txerr = false) :
    ∃ t, steps 14 s = .next t ∧ SendResult s t := by
  have hfails : (sendGuarded (afterWrites 9 (sendOpened s))).txerr = (s.txerr || sendFails s) := rfl
  rw [he, Bool.false_or] at hfails
  refine ⟨_, steps_send hu hp, ?_, ?_, ?_, ?_⟩
  · rw [completeSend_trace]
    simp [sendEvents, sendGuarded, afterWrites, sendOpened]
  · have hresult : (applyOp (sendGuarded (afterWrites 9 (sendOpened s)))).run = (applyOp s).run :=
      applyOp_run_congr rfl rfl
    rw [completeSend_run, hfails, hresult]
    rfl
  · rw [completeSend_fault, hfails]
    rfl
  · rw [completeSend_frame]
    rfl

/-! ### From the presented word to the end of the operation -/

/-- A transmitting operation whose word is in front of an idle block: one step accepts it, and fourteen send its frame. -/
theorem steps_transmit {o : HostOp} {arg : Rpm} {s : State} {rest : List Presented} (ho : o ≠ .reportSpeed)
    (hp : s.phase = .idle) (hi : s.inbox = encode (.ofHostOp o arg) :: rest) (hu : Undisturbed { s with inbox := rest }) :
    ∃ t, steps 15 s = .next t ∧ SendResult (idleEffect (.ofHostOp o arg) { s with inbox := rest }) t := by
  obtain ⟨(hs : s.schedule = []), (hb : s.beyond = .recurs .block []), hw⟩ := hu
  have haccept := step_accepts (nextMove_recurs hs hb) hp hi
  rw [moveUsed_recurs hs hb, ← hs] at haccept
  obtain ⟨hphase, -, herr⟩ := idleEffect_ofHostOp o arg { s with inbox := rest }
  have hu' : Undisturbed (idleEffect (.ofHostOp o arg) { s with inbox := rest }) := by
    rw [idleEffect_frame]
    exact ⟨hs, hb, hw⟩
  rw [steps_succ 14 haccept]
  exact steps_send_result hu' (by rw [hphase, if_neg ho]) herr

/-- Settles O31: the `send` of the power-on frame, and RUN by its completion. -/
theorem turnOnOperation : Obligations.TurnOnOperation := by
  intro arg s rest hp hi hu
  obtain ⟨t, hrun, r⟩ := steps_transmit (o := .turnOn) nofun hp hi hu
  refine ⟨t, hrun, r.trace, r.run, r.fault, ?_⟩
  rw [r.frame]
  exact ⟨rfl, rfl, rfl, rfl, rfl, rfl⟩

/-- Settles O32: the `send` of the power-off frame, and RUN by its completion. -/
theorem turnOffOperation : Obligations.TurnOffOperation := by
  intro arg s rest hp hi hu
  obtain ⟨t, hrun, r⟩ := steps_transmit (o := .turnOff) nofun hp hi hu
  refine ⟨t, hrun, r.trace, r.run, r.fault, ?_⟩
  rw [r.frame]
  exact ⟨rfl, rfl, rfl, rfl, rfl, rfl⟩

/-- Below 60 rpm, with SPEED_D3 = 0x00, the speed frame is the power-on frame (30_encoding.md R75, 41_frame_builder.md
R115). -/
theorem speedFrame_of_lt_sixty {rpm : Rpm} (h : rpm.toNat < 60) : speedFrame 0x00 (freq16 rpm) = powerFrame .clockwise := by
  rw [freq16_eq_zero (by rw [Nat.div_eq_of_lt h])]
  exact speedFrame_zero .clockwise

/-- Settles O33: the `send` of the speed frame; FREQ_CMD is of the acceptance, and completion of SET_SPEED keeps RUN. -/
theorem setSpeedOperation : Obligations.SetSpeedOperation := by
  intro rpm s rest hp hi hu
  obtain ⟨t, hsteps, r⟩ := steps_transmit (o := .setSpeed) nofun hp hi hu
  have hrun : t.run = s.run := r.run.trans (ite_self _)
  have hlow : rpm.toNat < 60 → s.cfg.speedD3 = 0x00 →
      speedFrame s.cfg.speedD3 (freq16 rpm) = powerFrame .clockwise :=
    fun h hd => hd ▸ speedFrame_of_lt_sixty h
  refine ⟨t, hsteps, r.trace, ?_, hrun, r.fault, ?_⟩
  · rw [r.frame]
    exact freq16_toNat rpm
  · rw [r.frame, hrun]
    exact ⟨rfl, rfl, rfl, rfl, rfl, hlow, rfl⟩

end Sys2Proof.Machine
end

section
/-! REPORT_SPEED as a whole (44_controller_ops.md R176, 43_rx_parser.md R158): the acceptance, the drain of what is buffered, the
arrival of the drive's frame, its thirteen reads, and the decode. -/

namespace Sys2Proof.Machine

/-- The drain phase when the block's turns for it are scheduled, and other moves after them (43_rx_parser.md R146). -/
theorem steps_rxFlush_scheduled {stale : List Byte} {moves : List Move} {s : State}
    (hw : ∀ p ∈ s.inbox.head?, p.fmt ≠ .statFrame) (hp : s.phase = .rxFlush) (hf : s.rxFifo = stale)
    (hs : s.schedule = List.replicate (stale.length + 1) .block ++ moves) :
    steps (stale.length + 1) s = .next { s with
      rxFifo := [], trace := s.trace ++ flushEvents stale, idx := 0, rxTimer := 0, phase := .rxRead
      schedule := moves } := by
  induction stale generalizing s with
  | nil =>
    have hcheck := step_rxFlush_empty (blockMoves_of_busy (nextMove_scheduled hs) (by simp [hp]) hw) hp hf
    rw [moveUsed_scheduled hs] at hcheck
    rw [List.length_nil, steps_succ 0 hcheck, steps_zero, hf, flushEvents_nil]
    rfl
  | cons b rest ih =>
    have hcheck := step_rxFlush_byte (blockMoves_of_busy (nextMove_scheduled hs) (by simp [hp]) hw) hp hf
    rw [moveUsed_scheduled hs] at hcheck
    have hrest := ih (s := { s with
      rxFifo := rest, trace := s.trace ++ [.rxReadable true, .rxRead b]
      schedule := List.replicate (rest.length + 1) .block ++ moves }) hw hp rfl rfl
    rw [List.length_cons, steps_succ _ hcheck, flushEvents_cons, ← List.append_assoc]
    exact hrest

/-- The drive's bytes join the FIFO one by one, whatever the block's phase (10_state.md R38). -/
theorem steps_arrivals {bytes : List Byte} {moves : List Move} {s : State}
    (hs : s.schedule = bytes.map .rxArrive ++ moves) :
    steps bytes.length s = .next { s with rxFifo := s.rxFifo ++ bytes, schedule := moves } := by
  induction bytes generalizing s with
  | nil =>
    obtain rfl : s.schedule = moves := hs
    simp [steps_zero]
  | cons b rest ih =>
    have harrive := step_environment (nextMove_scheduled hs) nofun
    rw [moveUsed_scheduled hs] at harrive
    rw [List.length_cons, steps_succ _ harrive, ih rfl]
    simp [environment, arrive]

theorem length_flushEvents (stale : List Byte) : (flushEvents stale).length = 2 * stale.length + 1 := by
  induction stale with
  | nil => rfl
  | cons b rest ih => rw [flushEvents_cons, List.length_append, ih]; simp; omega

/-- The state of RX_READ entered by a REPORT_SPEED begun in `s`, what was buffered drained. -/
def fifoDrained (arg : Rpm) (rest : List Presented) (moves : List Move) (s : State) : State :=
  { s with
    op := .reportSpeed, arg := arg, fault := 0, txerr := false, phase := .rxRead, idx := 0, rxTimer := 0, rxFifo := []
    trace := s.trace ++ flushEvents s.rxFifo, inbox := rest, schedule := moves }

/-- The state of RX_DECODE entered by a REPORT_SPEED begun in `s`, the whole frame received. -/
def frameReceived (arg : Rpm) (rest : List Presented) (frame : Vector Byte 13) (s : State) : State :=
  { fifoDrained arg rest [] s with
    phase := .rxDecode, idx := 13, rxbuf := frame
    trace := s.trace ++ flushEvents s.rxFifo ++ frame.toList.map .rxRead }

/-- Acceptance and the drain phase, when the block's turns for them are scheduled. -/
theorem steps_fifoDrained {arg : Rpm} {s : State} {rest : List Presented} {moves : List Move} (hp : s.phase = .idle)
    (hi : s.inbox = encode (.reportSpeed arg) :: rest) (hw : ∀ p ∈ rest.head?, p.fmt ≠ .statFrame)
    (hs : s.schedule = List.replicate (s.rxFifo.length + 2) .block ++ moves) :
    steps (s.rxFifo.length + 2) s = .next (fifoDrained arg rest moves s) := by
  have haccept := step_accepts (o := .reportSpeed) (nextMove_scheduled hs) hp hi
  rw [moveUsed_scheduled hs] at haccept
  rw [steps_succ _ haccept]
  exact steps_rxFlush_scheduled hw rfl rfl rfl

/-- The drive's frame arrives while RX_READ waits, and is read (43_rx_parser.md R148). -/
theorem steps_frameReceived {arg : Rpm} {s : State} {rest : List Presented} {frame : Vector Byte 13}
    (hw : ∀ p ∈ rest.head?, p.fmt ≠ .statFrame) (hb : s.beyond = .recurs .block []) :
    steps 26 (fifoDrained arg rest (frame.toList.map .rxArrive) s) = .next (frameReceived arg rest frame s) := by
  have harrive := steps_arrivals (s := fifoDrained arg rest (frame.toList.map .rxArrive) s) (List.append_nil _).symm
  rw [Vector.length_toList] at harrive
  rw [steps_add 13 13 harrive]
  exact thirteenReadsFillBuffer _ frame [] ⟨rfl, hb, hw⟩ rfl rfl (List.append_nil _).symm

/-- Settles O45: the decode of the received frame, by the check. -/
theorem reportSpeedOperation : Obligations.ReportSpeedOperation := by
  intro arg s rest frame hp hi hw hs hb
  have hu : Undisturbed (frameReceived arg rest frame s) := ⟨rfl, hb, hw⟩
  have hmoves : BlockMoves (frameReceived arg rest frame s) := hu.blockMoves nofun
  have hlength : (flushEvents s.rxFifo ++ frame.toList.map Event.rxRead).length = 2 * s.rxFifo.length + 14 := by
    simp [length_flushEvents]
  have hrun {t : State} (hstep : step (frameReceived arg rest frame s) = .next t) :
      steps (s.rxFifo.length + 29) s = .next t := by
    rw [steps_add (s.rxFifo.length + 2) 27 (steps_fifoDrained hp hi hw hs), steps_add 26 1 (steps_frameReceived hw hb),
      steps_succ 0 hstep, steps_zero]
  cases hc : s.cfg.rxCheckFixed && !fixedBytesOk frame with
  | true =>
    rw [Bool.and_eq_true, Bool.not_eq_true'] at hc
    obtain ⟨hcheck, hok⟩ := hc
    have hstep := step_rxDecode_fails hmoves rfl hcheck hok
    rw [hu.moveUsed_eq] at hstep
    exact ⟨_, hrun hstep, rfl, rfl, rfl, rfl, hlength, ⟨rfl, rfl, rfl⟩, rfl⟩
  | false =>
    have hok : s.cfg.rxCheckFixed = false ∨ fixedBytesOk frame = true := by simpa [imp_iff_not_or] using hc
    have hstep := step_rxDecode_passes hmoves rfl hok
    rw [hu.moveUsed_eq] at hstep
    exact ⟨_, hrun hstep, rfl, rfl, rfl, rfl, hlength, ⟨rfl, rfl, rfl⟩, rfl⟩

end Sys2Proof.Machine
end

section
/-! Fault entry and the life of FAULT (60_exceptions.md R193, R196 to R198): a step that records a fault, as one update of the
state, and what a step from IDLE does to FAULT. -/

namespace Sys2Proof.Machine

/-! ### The step that records a fault (R196) -/

theorem RegistersKept.faultLog {s t : State} (h : RegistersKept s t) : t.faultLog = s.faultLog := by rw [h.frame]

@[simp] theorem idleEffect_faultLog (i : Instr) (s : State) : (idleEffect i s).faultLog = s.faultLog := by
  rw [idleEffect_frame]

/-- A wait that records a fault raised ResponseTimeout. -/
theorem awaitByte_of_records {s : State} (hl : (awaitByte s).faultLog ≠ s.faultLog) :
    awaitByte s = raiseFault .responseTimeout s := by
  obtain ⟨-, e⟩ | ⟨_, -, -, e⟩ | ⟨_, -, -, e⟩ := awaitByte_cases s
  · exact absurd (by rw [e]) hl
  · exact absurd (by rw [e]) hl
  · exact e

/-- A phase that records a fault raises it under the fault's condition and writes, but for the event of the guard wait, nothing
else. -/
theorem phaseStep_records {s t : State} (h : phaseStep s = .next t) (hl : t.faultLog ≠ s.faultLog) :
    ∃ k, RaisedBy s k ∧ t = raiseFault k { s with trace := t.trace } := by
  obtain ⟨k, hk, -⟩ := (phaseStep_effect h).fault.resolve_left fun hkept => hl hkept.2
  refine ⟨k, hk, ?_⟩
  cases hk with
  | transport hp he =>
    simp only [phaseStep, hp, stepTxGuard, completeSend, delay_txerr, he, if_true] at h
    cases h
    rfl
  | timeout hp hf _ =>
    rw [phaseStep_rxRead_empty hp hf] at h
    cases h
    rw [awaitByte_of_records hl]
    rfl
  | framing hp hc hb =>
    simp only [phaseStep, hp, stepRxDecode, hc, hb, Bool.not_false, Bool.and_self, if_true] at h
    cases h
    rfl

theorem RaisedBy.of_moveUsed {s : State} {k : FaultKind} (h : RaisedBy (moveUsed s) k) : RaisedBy s k := by
  cases h with
  | transport hp he => exact .transport (by simpa using hp) (by simpa using he)
  | timeout hp hf hl => exact .timeout (by simpa using hp) (by simpa using hf) (by simpa using hl)
  | framing hp hc hb => exact .framing (by simpa using hp) (by simpa using hc) (by simpa using hb)

/-- A step that records a fault is the block's own, in the phase and under the condition of the fault, and writes FAULT, PHASE
and the record alone. -/
theorem step_records {s t : State} (h : step s = .next t) (hl : t.faultLog ≠ s.faultLog) :
    BlockMoves s ∧ ∃ k, RaisedBy s k ∧ t = raiseFault k { moveUsed s with trace := t.trace } := by
  obtain ⟨-, rfl⟩ | ⟨-, hk⟩ | ⟨-, -, p, rest, i, -, -, -, rfl⟩ | ⟨hb, hs⟩ := step_effect h
  · exact absurd (moveUsed_faultLog s) hl
  · exact absurd hk.faultLog hl
  · simp at hl
  · obtain ⟨k, hk, e⟩ := phaseStep_records hs (by simpa using hl)
    exact ⟨hb, k, hk.of_moveUsed, e⟩

/-- Under the invariant a fault is raised with the line deasserted, by its own operation and with its parameter set (R191 to
R193). -/
theorem RaisedBy.source {s : State} {k : FaultKind} (hk : RaisedBy s k) (hi : Inv s) :
    s.dir = false ∧
      ((k = .transportError ∧ s.phase = .txGuard ∧ s.op ≠ .reportSpeed ∧ s.cfg.hasTxErr = true ∧ s.txerr = true) ∨
        (k = .responseTimeout ∧ s.phase = .rxRead ∧ s.op = .reportSpeed ∧ s.cfg.rxTimeout.isSome = true) ∨
        (k = .protocolFramingError ∧ s.phase = .rxDecode ∧ s.op = .reportSpeed ∧ s.cfg.rxCheckFixed = true ∧
          fixedBytesOk s.rxbuf = false)) := by
  have hpar := hk.faultOk hi
  rw [hi.line]
  cases hk with
  | transport hp he =>
    exact ⟨by rw [hp]; rfl, .inl ⟨rfl, hp, hi.txOp (by rw [hp]; rfl), hpar.transport rfl, he⟩⟩
  | timeout hp hf hl => exact ⟨by rw [hp]; rfl, .inr (.inl ⟨rfl, hp, hi.rxOp (by rw [hp]; rfl), hl⟩)⟩
  | framing hp hc hb => exact ⟨by rw [hp]; rfl, .inr (.inr ⟨rfl, hp, hi.rxOp (by rw [hp]; rfl), hc, hb⟩)⟩

/-- Settles O57: what the step writes is fault entry's, who raised it is the invariant's. -/
theorem faultEntryIsPrecise : Obligations.FaultEntryIsPrecise := by
  intro s t hi h hl
  obtain ⟨-, k, hk, e⟩ := step_records h hl
  obtain ⟨hdir, hsource⟩ := hk.source hi
  rw [e]
  exact ⟨k, by simp, rfl, rfl, by simpa using hdir, hsource, by simp⟩

/-! ### ResponseTimeout (R193) -/

/-- The table ends a read on an empty FIFO only at a bound that the timer has reached (43_rx_parser.md R149). -/
theorem limit_reached_of_tablePhase {s : State} (hp : s.phase = .rxRead) (hf : s.rxFifo = [])
    (ht : tablePhase s = .idle) : ∃ limit, s.cfg.rxTimeout = some limit ∧ limit ≤ s.rxTimer := by
  cases hl : s.cfg.rxTimeout with
  | none => simp [tablePhase, hp, hf, timedOut, hl] at ht
  | some limit => simpa [tablePhase, hp, hf, timedOut, hl] using ht

/-- The timeout step on the block's turn (43_rx_parser.md R149; log 11). -/
theorem step_rxRead_raises {s : State} {limit : Nat} (hb : BlockMoves s) (hp : s.phase = .rxRead) (hf : s.rxFifo = [])
    (hl : s.cfg.rxTimeout = some limit) (ht : limit ≤ s.rxTimer) :
    step s = .next (raiseFault .responseTimeout (moveUsed s)) := by
  rw [step_phase hb, phaseStep_rxRead_empty (by simpa using hp) (by simpa using hf),
    awaitByte_of_le (by simpa using hl) (by simpa using ht)]

/-- Settles O41: the timeout step, and, from a record of ResponseTimeout, the phase that made it; that the bound was reached is
what PHASE = IDLE after a read says. -/
theorem timeoutEndsRead : Obligations.TimeoutEndsRead := by
  refine ⟨fun s limit hb hp hf hl ht => ?_, fun s t h hlog => ?_⟩
  · rw [step_rxRead_raises hb hp hf hl ht, raiseFault, moveUsed_faultLog]
    rfl
  · obtain ⟨hb, k, hk, e⟩ := step_records h (by simp [hlog])
    obtain rfl : k = .responseTimeout := by
      rw [e] at hlog
      simpa using hlog
    have hphase : tablePhase s = .idle := (step_tablePhase hb h).symm.trans (by rw [e]; rfl)
    cases hk with
    | timeout hp hf _ =>
      refine ⟨hp, hf, limit_reached_of_tablePhase hp hf hphase, fun hi => hi.rxOp (by rw [hp]; rfl), ?_⟩
      rw [e]
      exact ⟨rfl, moveUsed_rxbuf s, moveUsed_freqRaw s, moveUsed_rpm s⟩

/-! ### FAULT while the block is idle (R197) -/

theorem RegistersKept.fault {s t : State} (h : RegistersKept s t) : t.fault = s.fault := by rw [h.frame]

/-- An idle block's word clears FAULT if it is an operation, and otherwise keeps FAULT and PHASE. -/
theorem idleEffect_fault (i : Instr) (s : State) :
    ((idleEffect i s).fault = 0 ∧ (idleEffect i s).phase ≠ .idle) ∨
      ((idleEffect i s).fault = s.fault ∧ (idleEffect i s).phase = s.phase) := by
  by_cases hf : i.format = .hostCmd
  · obtain ⟨o, arg, rfl⟩ := exists_ofHostOp hf
    obtain ⟨hp, h0, -⟩ := idleEffect_ofHostOp o arg s
    exact .inl ⟨h0, by rw [hp]; split_ifs <;> nofun⟩
  · rw [idleEffect_frameRow hf]
    exact .inr ⟨rfl, rfl⟩

/-- What a step from IDLE does to FAULT: reset and acceptance clear it, everything else keeps it and leaves the block idle. -/
theorem step_fault_of_idle {s t : State} (hp : s.phase = .idle) (h : step s = .next t) :
    (t.fault = 0 ∧ (t.phase ≠ .idle ∨ nextMove s = .reset)) ∨ (t.fault = s.fault ∧ t.phase = .idle) := by
  obtain ⟨hr, rfl⟩ | ⟨-, hk⟩ | ⟨-, -, p, rest, i, -, -, -, rfl⟩ | ⟨-, hs⟩ := step_effect h
  · exact .inl ⟨rfl, .inr hr⟩
  · exact .inr ⟨hk.fault, hk.phase.trans hp⟩
  · obtain ⟨h0, ha⟩ | ⟨hk, ht⟩ := idleEffect_fault i { moveUsed s with inbox := rest }
    · exact .inl ⟨h0, .inl ha⟩
    · exact .inr ⟨hk.trans (moveUsed_fault s), ht.trans ((moveUsed_phase s).trans hp)⟩
  · simp only [phaseStep, moveUsed_phase, hp] at hs
    cases hs
    exact .inr ⟨moveUsed_fault s, (moveUsed_phase s).trans hp⟩

/-- Settles O58: a step from IDLE that keeps FAULT leaves the block idle. -/
theorem faultKeptUntilAcceptance : Obligations.FaultKeptUntilAcceptance := by
  intro s t hp h
  obtain ⟨h0, ha⟩ | ⟨hk, ht⟩ := step_fault_of_idle hp h
  · exact ⟨fun _ => ⟨h0, ha⟩, fun _ => h0⟩
  · exact ⟨fun hne => absurd hk hne, fun hne => absurd ht hne⟩

end Sys2Proof.Machine
end

section
/-! Reset and the hazards (70_reset_and_hazards.md): reset abandons whatever runs, an idle block waits in silence, and a
silent drive holds the block for ever. -/

namespace Sys2Proof.Machine

/-! ### Idle (R222) -/

/-- An idle block that takes no word uses its turn up and does nothing else. -/
theorem step_idle {s : State} (hb : BlockMoves s) (hp : s.phase = .idle) : step s = .next (moveUsed s) := by
  rw [step_phase hb]
  simp [phaseStep, hp]

/-- An idle phase emits nothing, so neither does any step from IDLE, an acceptance included. -/
theorem step_trace_of_idle {s t : State} (hp : s.phase = .idle) (h : step s = .next t) : t.trace = s.trace := by
  obtain hk | ⟨-, ht⟩ := step_trace h
  · exact hk
  · have hsilent : phaseEvents s = [] := by simp [phaseEvents, hp]
    rw [ht, phaseEvents_moveUsed, hsilent, List.append_nil]

/-- Settles O4: the idle turn, the silence of every step from IDLE, and the reset values. -/
theorem idleBlockWaits : Obligations.IdleBlockWaits := by
  refine ⟨fun s hp hi hm => ?_, fun _ _ => step_trace_of_idle, rfl, rfl, rfl⟩
  have hb : BlockMoves s := ⟨hm, by simp [hi]⟩
  exact step_idle hb hp

/-! ### Held for ever (R227) -/

/-- Undisturbed on an empty FIFO and without a bound, a step changes nothing (43_rx_parser.md R148). -/
theorem step_rxRead_unbounded {s : State} (hu : Undisturbed s) (hp : s.phase = .rxRead) (hf : s.rxFifo = [])
    (hl : s.cfg.rxTimeout = none) : step s = .next s := by
  rw [step_undisturbed hu (by simp [hp]), phaseStep_rxRead_empty hp hf, awaitByte_of_no_bound hl]

/-- A state that its own step answers is where every run from it stays. -/
theorem steps_of_step_eq_self {s : State} (h : step s = .next s) (n : Nat) : steps n s = .next s := by
  induction n with
  | zero => exact steps_zero s
  | succ n ih => rw [steps_succ n h, ih]

/-- Settles O42: the held state is its own next state, and RX_READ is not IDLE. -/
theorem silentDriveHoldsForever : Obligations.SilentDriveHoldsForever := fun s hu hp hf hl n =>
  ⟨steps_of_step_eq_self (step_rxRead_unbounded hu hp hf hl) n, (busy_eq_true s).2 (by simp [hp])⟩

/-! ### Reset (R220, R221) -/

/-- Settles O2: the reset move resets the block, and what is outside the block only loses the turn. -/
theorem resetEventAbandonsOperation : Obligations.ResetEventAbandonsOperation := fun s hm =>
  ⟨resetBlock (moveUsed s), step_environment hm nofun, rfl, rfl, moveUsed_trace s, rfl, moveUsed_faultLog s,
    moveUsed_txPort s, moveUsed_wire s, moveUsed_rxFifo s⟩

/-- Settles O3: an idle block owes nothing to a buffer or an operation, FAULT is 0, and no byte has been handed over. -/
theorem resetMeetsInvariant : Obligations.ResetMeetsInvariant where
  line := rfl
  txIndex := nofun
  rxIndex := nofun
  frame := nofun
  txOp := nofun
  rxOp := nofun
  faultWhileBusy := nofun
  framingFault := nofun
  transportFault := nofun
  timeoutFault := nofun
  faultCode := Nat.zero_le 3
  faultRecord := List.not_mem_nil
  noTxErr := fun _ => rfl
  wireOrder := List.Sublist.refl []

end Sys2Proof.Machine
end
